-- ==== Sys2Proof/Word.lean ====
section
/-! DEFINITION. The widths of the block's words (spec rule R5 and R6): a byte of a frame, a 16-bit register, a 32-bit
output element.  All three are bit vectors because the spec slices, shifts and exclusive-ors them. -/

namespace Sys2Proof

/-- A byte: 8 bits (R6).  The unit of TXBUF and RXBUF, a SlaveAddress, a FunctionCode. -/
abbrev Byte := BitVec 8

/-- A 16-bit register, RegisterAddress, RegisterValue or integrity code (R5). -/
abbrev Half := BitVec 16

/-- A 32-bit element of OUTBUF (R31). -/
abbrev Word := BitVec 32

end Sys2Proof
end

