-- ==== Sys2Proof/Config.lean ====
section
/-! DEFINITION. The parameters of rule R5.  Those the spec fixes are plain constants; the four it leaves OPEN
(decisions D9 and D25, "argument of the model") are opaque constants with no body, so no proof can see a value. -/

namespace Sys2Proof.Config

/-- `CRC_POLY`, the feedback constant (R5). -/
def crcPoly : Half := 0xA001#16

/-- `CRC_INIT`, the initial value of every CRC computation (R5). -/
def crcInit : Half := 0xFFFF#16

/-- `FRAME_MAX`: capacity in bytes of TXBUF and of RXBUF (R5, R40). -/
abbrev frameMax : Nat := 263

/-- `VAL_MAX`: capacity in words of VALBUF (R5, R40). -/
abbrev valMax : Nat := 127

/-- `OUT_MAX`: capacity in elements of OUTBUF, FRAME_MAX - 5 (R5, R40). -/
abbrev outMax : Nat := 258

/-- `DEFAULT_RETRY_COUNT`, 16-bit signed: the reset value of CFG_DEFAULT_RETRY.  OPEN in the spec (R5, R17, D9).
Log entry 1. -/
opaque defaultRetryCount : Half

/-- `TIMEOUT_W`: the width of the two timeout registers.  OPEN in the spec (R5, R18, D25).  Log entry 1. -/
opaque timeoutW : Nat

/-- `RESPONSE_TIMEOUT_DEFAULT`: the reset value of CFG_RESP_TIMEOUT.  OPEN in the spec (R5, R18, D25).  Log entry 1. -/
opaque responseTimeoutDefault : BitVec timeoutW

/-- `QUEUE_TIMEOUT_DEFAULT`: the reset value of CFG_QUEUE_TIMEOUT.  OPEN in the spec (R5, R18, D25).  Log entry 1. -/
opaque queueTimeoutDefault : BitVec timeoutW

end Sys2Proof.Config
end

