-- ==== Sys2Proof/Machine/Bytes.lean ====
section
/-! DEFINITION. Slices, byte order and extension (rules R6, R44, R45): the one place where byte order is decided. -/

namespace Sys2Proof.Machine

/-- `hi8(v) = v[15:8]` (R6). -/
def hi8 (v : Half) : Byte := v.extractLsb' 8 8

/-- `lo8(v) = v[7:0]` (R6). -/
def lo8 (v : Half) : Byte := v.extractLsb' 0 8

/-- `be16(v)`, most significant byte first (R6, R44). -/
def be16 (v : Half) : List Byte := [hi8 v, lo8 v]

/-- `le16(v)`, least significant byte first: the trailer's order (R6, R44, R66). -/
def le16 (v : Half) : List Byte := [lo8 v, hi8 v]

/-- The 16-bit value whose high byte is `h` and whose low byte is `l`: `h * 256 + l` (R6). -/
def join16 (h l : Byte) : Half := BitVec.ofNat 16 (h.toNat * 256 + l.toNat)

/-- The 32-bit value of four bytes, first register word high: `a * 2^24 + b * 2^16 + c * 2^8 + d` (R45, R137). -/
def join32 (a b c d : Byte) : Word :=
  BitVec.ofNat 32 (a.toNat * 2 ^ 24 + b.toNat * 2 ^ 16 + c.toNat * 2 ^ 8 + d.toNat)

/-- `u16be(s, i) = s[i] * 256 + s[i+1]` (R6); a byte beyond the end, which no rule reads (R42), counts as zero. -/
def u16be (s : List Byte) (i : Nat) : Half := join16 (s.getD i 0) (s.getD (i + 1) 0)

/-- `u16le(s, i) = s[i] + s[i+1] * 256` (R6); a byte beyond the end, which no rule reads (R42), counts as zero. -/
def u16le (s : List Byte) (i : Nat) : Half := join16 (s.getD (i + 1) 0) (s.getD i 0)

/-- A byte sequence as big-endian 16-bit words in order; a last odd byte is left out (R64). -/
def words16 : List Byte → List Half
  | h :: l :: rest => join16 h l :: words16 rest
  | _ => []

/-- A byte sequence as 32-bit words, big-endian over four bytes, first register word high (R45); a rest shorter than four
bytes is left out. -/
def words32 : List Byte → List Word
  | a :: b :: c :: d :: rest => join32 a b c d :: words32 rest
  | _ => []

/-- `zext_32` of a byte (R139, R140). -/
def zextByte (b : Byte) : Word := b.setWidth 32

/-- `zext_32` of a 16-bit word (R135). -/
def zextHalf (v : Half) : Word := v.setWidth 32

/-- `sext_32` of a 16-bit word, two's complement (R136). -/
def sextHalf (v : Half) : Word := v.signExtend 32

/-- `MemRead(S, a, n)`: the `n` units of a sequence from index `a` (R7). -/
def memRead {α : Type} (s : List α) (a n : Nat) : List α := (s.drop a).take n

end Sys2Proof.Machine
end

