-- ==== Sys2Proof/Machine/Crc.lean ====
section
/-! DEFINITION. The CRC-16 generator, the trailer and the validator as pure functions (rules R111, R115, R117). -/

namespace Sys2Proof.Machine

/-- One bit step of R111 and R112: shift right one place, exclusive-or CRC_POLY if bit 0 was set before the shift. -/
def crcBit (c : Half) : Half := if c.getLsbD 0 then (c >>> 1) ^^^ Config.crcPoly else c >>> 1

/-- `n` bit steps. -/
def crcBits : Nat → Half → Half
  | 0, c => c
  | n + 1, c => crcBits n (crcBit c)

/-- `crc_byte(c, b)`: the byte enters the low eight bits, then eight bit steps (R111). -/
def crcByte (c : Half) (b : Byte) : Half := crcBits 8 (c ^^^ b.setWidth 16)

/-- `crc16(s)`: from CRC_INIT, byte after byte, no final exclusive-or (R111). -/
def crc16 (s : List Byte) : Half := s.foldl crcByte Config.crcInit

/-- `append_trailer(s) = s ‖ le16(crc16(s))` (R115). -/
def appendTrailer (s : List Byte) : List Byte := s ++ le16 (crc16 s)

/-- The result of `validate` (R117). -/
inductive Verdict where
  | ok
  | crcMismatch
  deriving DecidableEq, Repr

/-- The code recomputed over all bytes but the last two (R117). -/
def bodyCrc (f : List Byte) : Half := crc16 (f.take (f.length - 2))

/-- The trailer value found in the last two bytes (R26, R117). -/
def foundCrc (f : List Byte) : Half := u16le f (f.length - 2)

/-- `validate(f)` (R117, R119). -/
def validate (f : List Byte) : Verdict :=
  if f.length < 2 then .crcMismatch else if bodyCrc f = foundCrc f then .ok else .crcMismatch

end Sys2Proof.Machine
end

