-- ==== Sys2Proof/Machine/Frame.lean ====
section
/-! DEFINITION. Request packet assembly and the header strip as pure functions (rules R100, R131), the function codes of the
public operations (R67), and the wire frames of the formats FIXED, VAR and RESP_READ (R61, R63, R64). -/

namespace Sys2Proof.Machine

/-- ReadHoldingRegisters (R67). -/
def fnReadHolding : Byte := 0x03#8

/-- WriteSingleRegister (R67). -/
def fnWriteSingle : Byte := 0x06#8

/-- WriteMultipleRegisters (R67). -/
def fnWriteMultiple : Byte := 0x10#8

/-- `build_fixed(a, f, p1, p2)` (R100). -/
def buildFixed (a f : Byte) (p1 p2 : Half) : List Byte := [a, f] ++ be16 p1 ++ be16 p2

/-- `build_var(a, f, s, vals)` (R100, R68). -/
def buildVar (a f : Byte) (s : Half) (vals : List Half) : List Byte :=
  [a, f] ++ be16 s ++ be16 (BitVec.ofNat 16 vals.length) ++ [BitVec.ofNat 8 (2 * vals.length)] ++ vals.flatMap be16

/-- `strip(f)`: what lies between the three header bytes and the two trailer bytes (R131). -/
def strip (f : List Byte) : List Byte := memRead f 3 (f.length - 5)

/-- A whole wire frame of format FIXED (R61). -/
def wireFixed (a f : Byte) (p1 p2 : Half) : List Byte := appendTrailer (buildFixed a f p1 p2)

/-- A whole wire frame of format VAR (R63). -/
def wireVar (a f : Byte) (s : Half) (vals : List Half) : List Byte := appendTrailer (buildVar a f s vals)

/-- A whole wire frame of format RESP_READ (R64). -/
def wireRespRead (a f n : Byte) (payload : List Byte) : List Byte := appendTrailer ([a, f, n] ++ payload)

/-- Any frame with the trailer bytes as found, right or wrong (R60, R66). -/
def wireAny (body : List Byte) (low high : Byte) : List Byte := body ++ [low, high]

/-- An OP_CTRL value: RETRY_EN in bit 0, XFORM in bit 1, DTYPE in bits 4:2, the reserved bits zero (R16). -/
def opCtrlWord (retryEn xform : Bool) (dtype : BitVec 3) : Half :=
  BitVec.ofNat 16 (retryEn.toNat + 2 * xform.toNat + 4 * dtype.toNat)

end Sys2Proof.Machine
end

