-- ==== Sys2Proof/Syntax.lean ====
section
/-! DEFINITION. The rows of spec/opcode_table.json as syntax: one constructor of `Instr` per row.

The table has seven formats, and each is a space of words of its own, met at its own port of the block: a command code at
the command port (R70, R71), a pseudo-operation as two command codes (R191), a wire frame at the transport port (R60 to
R66, R170), an OP_CTRL value at the register port (R16, R72, R192).  A word is therefore a format with its bytes.  What
the rows that are no commands mean as instructions is said in log entries 4, 5 and 6. -/

namespace Sys2Proof

/-- The "format" column of the opcode table: which port a word is met at. -/
inductive Format where
  /-- `CMD4`: a 4-bit command code (R70, R71), held in one byte, which is the model's choice (log entry 20). -/
  | cmd4
  /-- `PSEUDO`: a sequence of command codes (R75, R191), each held as one of `CMD4` is (log entry 20). -/
  | pseudo
  /-- `FIXED`: an 8-byte wire frame (R61). -/
  | fixed
  /-- `VAR`: a wire frame of 9 + 2n bytes (R63). -/
  | var
  /-- `RESP_READ`: the response to a read, 5 bytes or more (R64). -/
  | respRead
  /-- `any frame`: any byte sequence with two trailer bytes (R60, R66). -/
  | anyFrame
  /-- `OP_CTRL.DTYPE`: a value of the register OP_CTRL (R16, R72), as two bytes, low byte first.  A register has no byte order
  (R46): this one is the model's choice (log entry 20). -/
  | opCtrl
  deriving DecidableEq, Repr

/-- Why the decoder rejects a word. -/
inductive Reject where
  /-- The word has a length its format does not allow. -/
  | wrongLength
  /-- A byte at the command port has a bit above bit 3 set: "the command word is 4 bits wide" (R70). -/
  | codeTooWide
  /-- Two command codes that are neither MKFIXED nor MKVAR: "there are no others" (R75). -/
  | unknownPseudo
  /-- The last two bytes are not `le16(crc16(...))` of the bytes before them (R60, R66). -/
  | badTrailer
  /-- The count field of a VAR frame is above 127 (R63, R104). -/
  | countTooLarge
  /-- The byteCount field of a VAR frame is not twice its count (R63). -/
  | badByteCount
  deriving DecidableEq, Repr

/-- One constructor per row of spec/opcode_table.json. -/
inductive Instr where
  /-- BLDF, 0x1: build fixed-length frame (R101). -/
  | bldf
  /-- BLDV, 0x2: build variable-length frame (R103). -/
  | bldv
  /-- APPT, 0x3: append trailer (R116). -/
  | appt
  /-- VALT, 0x4: validate trailer (R118). -/
  | valt
  /-- STRP, 0x5: strip the response header (R132). -/
  | strp
  /-- DECD, 0x6: decode the payload (R141). -/
  | decd
  /-- REQ, 0x7: orchestrate one request (R173). -/
  | req
  /-- RDHR, 0x8: read holding registers (R186). -/
  | rdhr
  /-- WRSR, 0x9: write single register with bounded retry (R152). -/
  | wrsr
  /-- WRMR, 0xA: write multiple registers (R188). -/
  | wrmr
  /-- CRCG, 0xB: CRC generate (R114). -/
  | crcg
  /-- RESERVED_0, code 0x0 (R71, R211). -/
  | reserved0
  /-- RESERVED_C, code 0xC (R71, R211). -/
  | reservedC
  /-- RESERVED_D, code 0xD (R71, R211). -/
  | reservedD
  /-- RESERVED_E, code 0xE (R71, R211). -/
  | reservedE
  /-- RESERVED_F, code 0xF (R71, R211). -/
  | reservedF
  /-- MKFIXED: BLDF then APPT (R191). -/
  | mkfixed
  /-- MKVAR: BLDV then APPT (R191). -/
  | mkvar
  /-- FRAME_FIXED: a wire frame of format FIXED whose function code is neither 0x03 nor 0x06 (R61). -/
  | frameFixed (slave func : Byte) (field1 field2 : Half)
  /-- FRAME_READ_HOLDING: a wire frame of format FIXED with function code 0x03 (R61, R62, R67). -/
  | frameReadHolding (slave : Byte) (start length : Half)
  /-- FRAME_WRITE_SINGLE: a wire frame of format FIXED with function code 0x06 (R61, R62, R67). -/
  | frameWriteSingle (slave : Byte) (register value : Half)
  /-- FRAME_WRITE_MULTIPLE: a wire frame of format VAR with function code 0x10 (R63, R67). -/
  | frameWriteMultiple (slave : Byte) (start : Half) (values : List Half)
  /-- FRAME_VAR: a wire frame of format VAR whose function code is not 0x10 (R63). -/
  | frameVar (slave func : Byte) (start : Half) (values : List Half)
  /-- FRAME_RESP_READ: a wire frame of format RESP_READ; the three header bytes are not inspected (R64). -/
  | frameRespRead (slave func byteCount : Byte) (payload : List Byte)
  /-- TRAILER: any frame, as the bytes before its last two and those two as found, low byte first (R60, R66). -/
  | trailer (body : List Byte) (low high : Byte)
  /-- DTYPE_U16: an OP_CTRL value with DTYPE = 0 (R72, R135). -/
  | dtypeU16 (retryEn xform : Bool)
  /-- DTYPE_S16: an OP_CTRL value with DTYPE = 1 (R72, R136). -/
  | dtypeS16 (retryEn xform : Bool)
  /-- DTYPE_U32: an OP_CTRL value with DTYPE = 2 (R72, R137). -/
  | dtypeU32 (retryEn xform : Bool)
  /-- DTYPE_S32: an OP_CTRL value with DTYPE = 3 (R72, R137). -/
  | dtypeS32 (retryEn xform : Bool)
  /-- DTYPE_F32: an OP_CTRL value with DTYPE = 4 (R72, R138). -/
  | dtypeF32 (retryEn xform : Bool)
  /-- DTYPE_RAW: an OP_CTRL value with DTYPE = 5 (R72, R140). -/
  | dtypeRaw (retryEn xform : Bool)
  /-- DTYPE_RESERVED_6: an OP_CTRL value with the reserved tag 6 (R72). -/
  | dtypeReserved6 (retryEn xform : Bool)
  /-- DTYPE_RESERVED_7: an OP_CTRL value with the reserved tag 7 (R72). -/
  | dtypeReserved7 (retryEn xform : Bool)
  deriving DecidableEq, Repr

end Sys2Proof
end

