-- ==== Sys2Proof/WellFormed.lean ====
section
/-! DEFINITION. Which instruction terms stand for a word of the opcode table.  Commands and OP_CTRL values have no ill-formed
term; a wire frame is bounded by FRAME_MAX, and a general frame row does not hold a function code that has its own row. -/

namespace Sys2Proof

/-- The function codes of the FIXED format that are rows of their own (R67). -/
def ownFixedRow (func : Byte) : Bool := func == 0x03#8 || func == 0x06#8

/-- The function code of the VAR format that is a row of its own (R67). -/
def ownVarRow (func : Byte) : Bool := func == 0x10#8

/-- The term is a word of its table row. -/
def Instr.wellFormed : Instr → Bool
  | .bldf | .bldv | .appt | .valt | .strp | .decd | .req | .rdhr | .wrsr | .wrmr | .crcg => true
  | .reserved0 | .reservedC | .reservedD | .reservedE | .reservedF => true
  | .mkfixed | .mkvar => true
  | .frameFixed _ func _ _ => !ownFixedRow func
  | .frameReadHolding _ _ _ | .frameWriteSingle _ _ _ => true
  | .frameWriteMultiple _ _ values => decide (values.length ≤ Config.valMax)
  | .frameVar _ func _ values => !ownVarRow func && decide (values.length ≤ Config.valMax)
  | .frameRespRead _ _ _ payload => decide (payload.length + 5 ≤ Config.frameMax)
  | .trailer body _ _ => decide (body.length + 2 ≤ Config.frameMax)
  | .dtypeU16 _ _ | .dtypeS16 _ _ | .dtypeU32 _ _ | .dtypeS32 _ _ => true
  | .dtypeF32 _ _ | .dtypeRaw _ _ | .dtypeReserved6 _ _ | .dtypeReserved7 _ _ => true

end Sys2Proof
end

