-- ==== Sys2Proof/Decode.lean ====
section
/-! DEFINITION. The decoder, total on any bytes of any format and rejecting by name; then the encoder, written from the same
tables (R61, R63, R64, R66, R70, R71, R72, R191); then the word the host's table check gives (`decodeTableWord`). -/

namespace Sys2Proof

open Sys2Proof.Machine

/-- The command codes of R70 and the reserved codes of R71. -/
def decodeCommand (code : BitVec 4) : Instr :=
  match code.toNat with
  | 0x1 => .bldf
  | 0x2 => .bldv
  | 0x3 => .appt
  | 0x4 => .valt
  | 0x5 => .strp
  | 0x6 => .decd
  | 0x7 => .req
  | 0x8 => .rdhr
  | 0x9 => .wrsr
  | 0xA => .wrmr
  | 0xB => .crcg
  | 0xC => .reservedC
  | 0xD => .reservedD
  | 0xE => .reservedE
  | 0xF => .reservedF
  | _ => .reserved0

/-- A byte at the command port: "the command word is 4 bits wide" (R70).  DESIGN CHOICE: the code is held in bits 3:0 of one byte
(log entry 20). -/
def decodeCmd4 : List Byte → Except Reject Instr
  | [b] => if b.toNat < 16 then .ok (decodeCommand (b.setWidth 4)) else .error .codeTooWide
  | _ => .error .wrongLength

/-- The two pseudo-operations as sequences of command codes (R75, R191), first command first, one byte a code (log entry
20). -/
def decodePseudo : List Byte → Except Reject Instr
  | [a, b] =>
    if a = 0x01#8 ∧ b = 0x03#8 then .ok .mkfixed
    else if a = 0x02#8 ∧ b = 0x03#8 then .ok .mkvar
    else .error .unknownPseudo
  | _ => .error .wrongLength

/-- The last two bytes are the trailer of the bytes before them (R60, R66). -/
def trailerFits (f : List Byte) : Bool := appendTrailer (f.take (f.length - 2)) == f

/-- The row of a FIXED frame's function code (R67). -/
def fixedRow (a f : Byte) (p q : Half) : Instr :=
  if f = fnReadHolding then .frameReadHolding a p q
  else if f = fnWriteSingle then .frameWriteSingle a p q
  else .frameFixed a f p q

/-- Format FIXED (R61). -/
def decodeFixed : List Byte → Except Reject Instr
  | [a, f, p1, p0, q1, q0, c0, c1] =>
    if trailerFits [a, f, p1, p0, q1, q0, c0, c1] then .ok (fixedRow a f (join16 p1 p0) (join16 q1 q0))
    else .error .badTrailer
  | _ => .error .wrongLength

/-- The row of a VAR frame's function code (R67). -/
def varRow (a f : Byte) (s : Half) (vals : List Half) : Instr :=
  if f = fnWriteMultiple then .frameWriteMultiple a s vals else .frameVar a f s vals

/-- Format VAR (R63): the count, the byteCount and the length agree, and the trailer fits. -/
def decodeVar : List Byte → Except Reject Instr
  | a :: f :: s1 :: s0 :: n1 :: n0 :: b :: rest =>
    let n := (join16 n1 n0).toNat
    if Config.valMax < n then .error .countTooLarge
    else if b ≠ BitVec.ofNat 8 (2 * n) then .error .badByteCount
    else if rest.length ≠ 2 * n + 2 then .error .wrongLength
    else if trailerFits (a :: f :: s1 :: s0 :: n1 :: n0 :: b :: rest) then
      .ok (varRow a f (join16 s1 s0) (words16 (rest.take (2 * n))))
    else .error .badTrailer
  | _ => .error .wrongLength

/-- Format RESP_READ (R64): the payload's end is found from the length, and no header byte is inspected. -/
def decodeRespRead : List Byte → Except Reject Instr
  | a :: f :: n :: rest =>
    if rest.length < 2 ∨ Config.frameMax < rest.length + 3 then .error .wrongLength
    else if trailerFits (a :: f :: n :: rest) then .ok (.frameRespRead a f n (rest.take (rest.length - 2)))
    else .error .badTrailer
  | _ => .error .wrongLength

/-- Any frame of two bytes or more (R60): the trailer bytes as found. -/
def decodeAnyFrame (f : List Byte) : Except Reject Instr :=
  if f.length < 2 ∨ Config.frameMax < f.length then .error .wrongLength
  else .ok (.trailer (f.take (f.length - 2)) (f.getD (f.length - 2) 0) (f.getD (f.length - 1) 0))

/-- The row of a DataType tag (R72). -/
def dtypeRow (retryEn xform : Bool) (dtype : BitVec 3) : Instr :=
  match dtype.toNat with
  | 0 => .dtypeU16 retryEn xform
  | 1 => .dtypeS16 retryEn xform
  | 2 => .dtypeU32 retryEn xform
  | 3 => .dtypeS32 retryEn xform
  | 4 => .dtypeF32 retryEn xform
  | 5 => .dtypeRaw retryEn xform
  | 6 => .dtypeReserved6 retryEn xform
  | _ => .dtypeReserved7 retryEn xform

/-- An OP_CTRL value; bits 15:5 are dropped (R16, R72, R192).  DESIGN CHOICE: its two bytes stand low byte first; the spec gives
a register no byte order (R46, log entry 20). -/
def decodeOpCtrl : List Byte → Except Reject Instr
  | [lo, _] => .ok (dtypeRow (lo.getLsbD 0) (lo.getLsbD 1) (lo.extractLsb' 2 3))
  | _ => .error .wrongLength

/-- The decoder: total on every format and every byte sequence. -/
def decode : Format → List Byte → Except Reject Instr
  | .cmd4, w => decodeCmd4 w
  | .pseudo, w => decodePseudo w
  | .fixed, w => decodeFixed w
  | .var, w => decodeVar w
  | .respRead, w => decodeRespRead w
  | .anyFrame, w => decodeAnyFrame w
  | .opCtrl, w => decodeOpCtrl w

/-- An OP_CTRL value as two bytes.  DESIGN CHOICE: low byte first, the order `decodeOpCtrl` reads (R46, log entry 20). -/
def encodeOpCtrl (retryEn xform : Bool) (dtype : BitVec 3) : Format × List Byte :=
  (.opCtrl, le16 (opCtrlWord retryEn xform dtype))

/-- The encoder: an instruction's format and bytes. -/
def encode : Instr → Format × List Byte
  | .reserved0 => (.cmd4, [0x00#8])
  | .bldf => (.cmd4, [0x01#8])
  | .bldv => (.cmd4, [0x02#8])
  | .appt => (.cmd4, [0x03#8])
  | .valt => (.cmd4, [0x04#8])
  | .strp => (.cmd4, [0x05#8])
  | .decd => (.cmd4, [0x06#8])
  | .req => (.cmd4, [0x07#8])
  | .rdhr => (.cmd4, [0x08#8])
  | .wrsr => (.cmd4, [0x09#8])
  | .wrmr => (.cmd4, [0x0A#8])
  | .crcg => (.cmd4, [0x0B#8])
  | .reservedC => (.cmd4, [0x0C#8])
  | .reservedD => (.cmd4, [0x0D#8])
  | .reservedE => (.cmd4, [0x0E#8])
  | .reservedF => (.cmd4, [0x0F#8])
  | .mkfixed => (.pseudo, [0x01#8, 0x03#8])
  | .mkvar => (.pseudo, [0x02#8, 0x03#8])
  | .frameFixed a f p q => (.fixed, wireFixed a f p q)
  | .frameReadHolding a s n => (.fixed, wireFixed a fnReadHolding s n)
  | .frameWriteSingle a r v => (.fixed, wireFixed a fnWriteSingle r v)
  | .frameWriteMultiple a s vals => (.var, wireVar a fnWriteMultiple s vals)
  | .frameVar a f s vals => (.var, wireVar a f s vals)
  | .frameRespRead a f n payload => (.respRead, wireRespRead a f n payload)
  | .trailer body low high => (.anyFrame, wireAny body low high)
  | .dtypeU16 r x => encodeOpCtrl r x 0#3
  | .dtypeS16 r x => encodeOpCtrl r x 1#3
  | .dtypeU32 r x => encodeOpCtrl r x 2#3
  | .dtypeS32 r x => encodeOpCtrl r x 3#3
  | .dtypeF32 r x => encodeOpCtrl r x 4#3
  | .dtypeRaw r x => encodeOpCtrl r x 5#3
  | .dtypeReserved6 r x => encodeOpCtrl r x 6#3
  | .dtypeReserved7 r x => encodeOpCtrl r x 7#3

/-- The lowest `n` bytes of `w`, least significant byte first. -/
def bytesOf : Nat → Nat → List Byte
  | 0, _ => []
  | n + 1, w => BitVec.ofNat 8 w :: bytesOf n (w / 256)

/-- The first of the formats under which the bytes decode; `anyFrame` if none does. -/
def firstFormat (w : List Byte) : List Format → Format
  | [] => .anyFrame
  | f :: rest => if (decode f w).isOk then f else firstFormat w rest

/-- The word that a number of `nbits` bits stands for.  The opcode table numbers the words of every format from bit 0 and
does not say the format, so it is found from the length: one byte is a command code when it fits in four bits and an
OP_CTRL value otherwise; a longer word is of the first format it decodes under.  Log entry 7. -/
def tableWord (nbits w : Nat) : Format × List Byte :=
  let bytes := bytesOf ((nbits + 7) / 8) w
  match bytes with
  | [] => (.cmd4, [])
  | [b] => if b.toNat < 16 then (.cmd4, [b]) else (.opCtrl, [b, 0#8])
  | _ => (firstFormat bytes [.pseudo, .fixed, .var, .respRead], bytes)

/-- The instruction the decoder reads from the word of `tableWord`. -/
def decodeTableWord (nbits w : Nat) : Option Instr :=
  match decode (tableWord nbits w).1 (tableWord nbits w).2 with
  | .ok i => some i
  | .error _ => none

end Sys2Proof
end

