-- ==== Sys2Proof/Machine/State.lean ====
section
/-! DEFINITION. The state of the block (rules R10 to R31), the environment's script and the block's outputs (R9, R54,
R192 to R196, R242), the reasons a step can stop, and the state after reset (R34).

"The state of the block is exactly the registers and buffers of rules R12 to R31" (R10): those are the fields up to `mem`.
A length register (TXLEN, RXLEN, VALLEN, OUT_COUNT) is the length of its buffer's list (R42: "a model may represent each
buffer as a list of exactly its valid length"), STATUS is PHASE and ST, RXFLAGS is the two flags.  The last three fields
are the model's own, not the block's (log entry 2). -/

namespace Sys2Proof.Machine

/-- PHASE (R20). -/
inductive Phase where
  /-- 0: the block waits for a host transaction. -/
  | idle
  /-- 1: a request was submitted and the block waits for the transport's answer. -/
  | await
  deriving DecidableEq, Repr

/-- STATUS.ST (R19); the value 3 never occurs. -/
inductive St where
  /-- 0: a command is in flight, or none was accepted since reset. -/
  | none
  /-- 1: the last accepted command ended normally. -/
  | ok
  /-- 2: the last accepted command ended with an error. -/
  | err
  deriving DecidableEq, Repr

/-- RC_STATE (R21). -/
inductive RcState where
  /-- 0: no write-single call. -/
  | idle
  /-- 1 -/
  | attempting
  /-- 2 -/
  | succeeded
  /-- 3 -/
  | exhausted
  deriving DecidableEq, Repr

/-- TXST, the lifecycle of the outbound frame (R27). -/
inductive TxState where
  /-- 0: nothing built. -/
  | empty
  /-- 1: header and payload present, no trailer yet. -/
  | open
  /-- 2: trailer appended. -/
  | sealed
  /-- 3: the frame was submitted and its request has ended. -/
  | spent
  deriving DecidableEq, Repr

/-- The errors of R200; ERR_CODE and ERR_CAUSE hold one of these. -/
inductive ErrCode where
  /-- 0x00: no error. -/
  | none
  /-- 0x01: the trailer does not match the recomputed value (R206). -/
  | crcMismatch
  /-- 0x02: WRSR exhausted its attempts (R207). -/
  | retryLimitExceeded
  /-- 0x03: the transport answered with a failure (R208). -/
  | transportError
  /-- 0x04: a frame too short to strip, or a payload of a wrong length (R209). -/
  | decodeError
  /-- 0x05: a command's input condition does not hold (R210). -/
  | preconditionError
  /-- 0x06: a reserved command code (R211). -/
  | illegalCommand
  deriving DecidableEq, Repr

/-- OP_CTRL: "a model stores only the defined fields" (R16, U3). -/
structure OpCtrl where
  /-- Bit 0: WRSR takes its retry count from OP_RETRY. -/
  retryEn : Bool
  /-- Bit 1: the read path bypasses the decoder. -/
  xform : Bool
  /-- Bits 4:2: the DataType tag, reserved values included. -/
  dtype : BitVec 3
  deriving DecidableEq, Repr

/-- The four buffers (R40), each the list of exactly its valid length (R42). -/
structure Memory where
  /-- TXBUF[0 : TXLEN) (R27). -/
  txbuf : List Byte
  /-- RXBUF[0 : RXLEN) (R28). -/
  rxbuf : List Byte
  /-- VALBUF[0 : VALLEN) (R30). -/
  valbuf : List Half
  /-- OUTBUF[0 : OUT_COUNT) (R31). -/
  outbuf : List Word
  deriving DecidableEq, Repr

/-- One log record (R159). -/
structure LogRecord where
  slave : Byte
  register : Half
  value : Half
  /-- The number K of the attempt that failed, from 1 (R158). -/
  k : Half
  /-- RC_N, two's complement. -/
  n : Half
  cause : ErrCode
  tp : Byte
  deriving DecidableEq, Repr

/-- An output event (R7, R54, R212). -/
inductive Event where
  /-- `tp_submit(bytes)` (R170). -/
  | tpSubmit (bytes : List Byte)
  /-- `log(...)` (R159). -/
  | log (record : LogRecord)
  /-- `done(OK)`. -/
  | doneOk
  /-- `done(ERR)`. -/
  | doneErr
  /-- `cmd_reject` (R196). -/
  | cmdReject
  deriving DecidableEq, Repr

/-- What a host transaction other than a command tells the host (R192 to R195, R202). -/
inductive Reply where
  /-- The write or load took effect. -/
  | accepted
  /-- The transaction was rejected and changed nothing. -/
  | rejected
  /-- RegRead's value, zero-extended to 16 bits. -/
  | value (v : Half)
  /-- RegRead's value of a timeout register, TIMEOUT_W bits. -/
  | timeoutValue (v : BitVec Config.timeoutW)
  /-- BufRead's units of TXBUF or RXBUF. -/
  | bytes (units : List Byte)
  /-- BufRead's units of VALBUF. -/
  | halves (units : List Half)
  /-- BufRead's units of OUTBUF. -/
  | words (units : List Word)
  deriving DecidableEq, Repr

/-- The buffer spaces (R40). -/
inductive Space where
  | txbuf
  | rxbuf
  | valbuf
  | outbuf
  deriving DecidableEq, Repr

/-- The argument of BufLoad (R194); OUTBUF cannot be loaded. -/
inductive Load where
  | txbuf (units : List Byte)
  | rxbuf (units : List Byte)
  | valbuf (units : List Half)
  deriving DecidableEq, Repr

/-- What the transport answers (R170). -/
inductive TpResult where
  /-- `tp_result(Ok, bytes)`. -/
  | ok (bytes : List Byte)
  /-- `tp_result(Fail, e)`. -/
  | fail (e : Byte)
  deriving DecidableEq, Repr

/-- One input of the block: what the host, the transport or the reset input does next (R9, R75, R230). -/
inductive Input where
  /-- A word of the opcode table at its port; a command is issued as `word .cmd4 [code]` (R196). -/
  | word (fmt : Format) (bytes : List Byte)
  /-- `RegWrite(index, value)` (R192). -/
  | regWrite (index value : Nat)
  /-- `RegRead(index)` (R193). -/
  | regRead (index : Nat)
  /-- `BufLoad(S, seq)` (R194). -/
  | bufLoad (load : Load)
  /-- `BufRead(S, a, n)` (R195). -/
  | bufRead (space : Space) (a n : Nat)
  /-- `tp_result` (R170). -/
  | tpResult (r : TpResult)
  /-- The reset input is asserted (R230). -/
  | reset
  deriving DecidableEq, Repr

/-- Why the machine stops with a fault. -/
inductive Fault where
  /-- Raised by `tpResult`, the transport's answer, in a state with PHASE = AWAIT whose CUR_CMD is no awaiting command.
  The spec rules such a state out (R32 f) and gives it no rule.  Safe: no run from reset meets it. -/
  | awaitWithoutCommand
  deriving DecidableEq, Repr

/-- Why a step has no meaning. -/
inductive Refusal where
  /-- Raised by an arm of `exec` whose instruction has no meaning yet.  Safe. -/
  | notModelled (mnemonic : String)
  /-- Raised by `tpResult` for more than FRAME_MAX bytes: "this spec gives it no meaning: a model refuses such an input"
  (R181, U7).  Safe. -/
  | oversizeResponse
  /-- Raised by `step` for a word the decoder rejects: bytes that are no word of the format they were given under.
  Safe. -/
  | notAnInstruction (r : Reject)
  deriving DecidableEq, Repr


/-- The whole state.  INVENTORY.md lists each field with its rule and its reset value. -/
structure State where
  /-- OP_SLAVE (R12). -/
  opSlave : Byte
  /-- OP_FUNC (R13). -/
  opFunc : Byte
  /-- OP_F1 (R14). -/
  opF1 : Half
  /-- OP_F2 (R14). -/
  opF2 : Half
  /-- OP_RETRY, two's complement (R16). -/
  opRetry : Half
  /-- OP_CTRL (R16). -/
  opCtrl : OpCtrl
  /-- CFG_DEFAULT_RETRY, two's complement (R17). -/
  cfgDefaultRetry : Half
  /-- CFG_RESP_TIMEOUT (R18). -/
  cfgRespTimeout : BitVec Config.timeoutW
  /-- CFG_QUEUE_TIMEOUT (R18). -/
  cfgQueueTimeout : BitVec Config.timeoutW
  /-- PHASE, read as STATUS.BUSY (R20). -/
  phase : Phase
  /-- STATUS.ST (R19). -/
  st : St
  /-- CUR_CMD (R19). -/
  curCmd : BitVec 4
  /-- RC_STATE (R21). -/
  rcState : RcState
  /-- REMAINING, two's complement (R22). -/
  remaining : Half
  /-- ATTEMPTS (R23). -/
  attempts : Half
  /-- RC_N, two's complement (R23). -/
  rcN : Half
  /-- CTX_SLAVE (R24). -/
  ctxSlave : Byte
  /-- CTX_REG (R24). -/
  ctxReg : Half
  /-- CTX_VALUE (R24). -/
  ctxValue : Half
  /-- ERR_CODE (R25). -/
  errCode : ErrCode
  /-- ERR_TP (R25). -/
  errTp : Byte
  /-- ERR_CAUSE (R25). -/
  errCause : ErrCode
  /-- CRCR (R26). -/
  crcr : Half
  /-- CRCX (R26). -/
  crcx : Half
  /-- TXST (R27). -/
  txst : TxState
  /-- RX_VALID, RXFLAGS[0] (R28). -/
  rxValid : Bool
  /-- PAY_VALID, RXFLAGS[1] (R29). -/
  payValid : Bool
  /-- PAY_LEN (R29). -/
  payLen : Half
  /-- OUT_KIND (R31). -/
  outKind : BitVec 4
  /-- TXBUF, RXBUF, VALBUF and OUTBUF with their lengths (R27, R28, R30, R31, R40). -/
  mem : Memory
  /-- The model's own: what the host, the transport and the reset input will do, next first (R9). -/
  inbox : List Input
  /-- The model's own: the events emitted so far, first to last (R54, R242). -/
  trace : List Event
  /-- The model's own: what the host's other transactions were answered, first to last (R192 to R195). -/
  replies : List Reply
  deriving DecidableEq, Repr

/-- No unit in any buffer: what the buffers hold after reset (R34). -/
def Memory.empty : Memory := { txbuf := [], rxbuf := [], valbuf := [], outbuf := [] }

/-- Every buffer is within its capacity (R40, R32 e). -/
def Memory.wf (m : Memory) : Bool :=
  decide (m.txbuf.length ≤ Config.frameMax) && decide (m.rxbuf.length ≤ Config.frameMax)
    && decide (m.valbuf.length ≤ Config.valMax) && decide (m.outbuf.length ≤ Config.outMax)

/-- The state after reset (R34, R231).  Nothing is in the inbox: "the block does nothing until the host acts". -/
def State.reset : State where
  opSlave := 0
  opFunc := 0
  opF1 := 0
  opF2 := 0
  opRetry := 0
  opCtrl := { retryEn := false, xform := false, dtype := 0 }
  cfgDefaultRetry := Config.defaultRetryCount
  cfgRespTimeout := Config.responseTimeoutDefault
  cfgQueueTimeout := Config.queueTimeoutDefault
  phase := .idle
  st := .none
  curCmd := 0
  rcState := .idle
  remaining := 0
  attempts := 0
  rcN := 0
  ctxSlave := 0
  ctxReg := 0
  ctxValue := 0
  errCode := .none
  errTp := 0
  errCause := .none
  crcr := 0xFFFF#16
  crcx := 0
  txst := .empty
  rxValid := false
  payValid := false
  payLen := 0
  outKind := 0
  mem := Memory.empty
  inbox := []
  trace := []
  replies := []

end Sys2Proof.Machine
end

