-- ==== Sys2Proof/Machine/Flags.lean ====
section
/-! DEFINITION. The condition bits: STATUS (R19), the numbers the enumerated registers read as (R20, R21, R27, R200), and the
receive flags RX_VALID and PAY_VALID with their one rule of change, a validation (R28, R29, R118, R176). -/

namespace Sys2Proof.Machine

/-- PHASE as STATUS.BUSY (R19, R20). -/
def Phase.bit : Phase → Bool
  | .idle => false
  | .await => true

/-- The 2-bit number of ST (R19). -/
def St.num : St → BitVec 2
  | .none => 0
  | .ok => 1
  | .err => 2

/-- The 2-bit number of RC_STATE (R21). -/
def RcState.num : RcState → BitVec 2
  | .idle => 0
  | .attempting => 1
  | .succeeded => 2
  | .exhausted => 3

/-- The 2-bit number of TXST (R27). -/
def TxState.num : TxState → BitVec 2
  | .empty => 0
  | .open => 1
  | .sealed => 2
  | .spent => 3

/-- The 8-bit error code (R200). -/
def ErrCode.num : ErrCode → Byte
  | .none => 0x00
  | .crcMismatch => 0x01
  | .retryLimitExceeded => 0x02
  | .transportError => 0x03
  | .decodeError => 0x04
  | .preconditionError => 0x05
  | .illegalCommand => 0x06

/-- STATUS: BUSY in bit 0, ST in bits 2:1, bits 7:3 zero (R19). -/
def State.status (s : State) : Byte := BitVec.ofNat 8 (s.phase.bit.toNat + 2 * s.st.num.toNat)

/-- RXFLAGS: RX_VALID in bit 0, PAY_VALID in bit 1 (R28, R29). -/
def State.rxflags (s : State) : BitVec 2 := BitVec.ofNat 2 (s.rxValid.toNat + 2 * s.payValid.toNat)

/-- OP_CTRL as a 16-bit number, bits 15:5 zero (R16). -/
def OpCtrl.num (c : OpCtrl) : Half := opCtrlWord c.retryEn c.xform c.dtype

/-- The fields of a 16-bit number written to OP_CTRL; bits 15:5 are dropped (R16, R192). -/
def OpCtrl.ofNum (v : Half) : OpCtrl :=
  { retryEn := v.getLsbD 0, xform := v.getLsbD 1, dtype := v.extractLsb' 2 3 }

/-- RX_VALID and PAY_VALID cleared: a write of RXBUF, or a failed validation (R28, R29). -/
def State.clearRxFlags (s : State) : State := { s with rxValid := false, payValid := false }

/-- The register effects of a validation of RXBUF (R118, R176): nothing computed for fewer than two bytes; otherwise CRCR
and CRCX written; RX_VALID set on agreement, and both flags cleared otherwise. -/
def State.judgeRx (s : State) : State :=
  if s.mem.rxbuf.length < 2 then s.clearRxFlags
  else if bodyCrc s.mem.rxbuf = foundCrc s.mem.rxbuf then
    { s with crcr := bodyCrc s.mem.rxbuf, crcx := foundCrc s.mem.rxbuf, rxValid := true }
  else
    { s with crcr := bodyCrc s.mem.rxbuf, crcx := foundCrc s.mem.rxbuf, rxValid := false, payValid := false }

end Sys2Proof.Machine
end

