-- ==== Sys2Proof/Machine/Operands.lean ====
section
/-! DEFINITION. What a command reads (rules R12 to R18, R29 to R31, R56, R72): operand registers, the retry count, the payload
window, the DataType tag, and the elements a payload decodes to (R134 to R140). -/

namespace Sys2Proof.Machine

/-- The DataType tags of R72. -/
inductive DataType where
  | u16
  | s16
  | u32
  | s32
  | f32
  | raw
  deriving DecidableEq, Repr

/-- The tag of a DTYPE field; 6 and 7 are reserved (R72). -/
def DataType.ofTag (dtype : BitVec 3) : Option DataType :=
  match dtype.toNat with
  | 0 => some .u16
  | 1 => some .s16
  | 2 => some .u32
  | 3 => some .s32
  | 4 => some .f32
  | 5 => some .raw
  | _ => none

/-- The DTYPE field of a tag (R72). -/
def DataType.tag : DataType → BitVec 3
  | .u16 => 0
  | .s16 => 1
  | .u32 => 2
  | .s32 => 3
  | .f32 => 4
  | .raw => 5

/-- `width(t)`: bytes per element (R72, R134). -/
def DataType.width : DataType → Nat
  | .u16 | .s16 => 2
  | .u32 | .s32 | .f32 => 4
  | .raw => 1

/-- The elements of a payload under a tag, in payload order (R134): U16 zero-extended (R135), S16 sign-extended (R136),
U32, S32 and F32 as the 32 bits they are (R137, R138), RAW one element a byte (R140). -/
def DataType.elements (t : DataType) (p : List Byte) : List Word :=
  match t with
  | .u16 => (words16 p).map zextHalf
  | .s16 => (words16 p).map sextHalf
  | .u32 => words32 p
  | .s32 => words32 p
  | .f32 => words32 p
  | .raw => p.map zextByte

/-- The caller-facing value of an element, where it is an integer: `uint` for U16 and U32, `sint` for S16 and S32 (R135,
R136, R137); for RAW the byte as a number (log entry 19).  That of an F32 element is `binary32`. -/
def DataType.callerValue (t : DataType) (w : Word) : Option Int :=
  match t with
  | .u16 | .u32 | .raw => some w.toNat
  | .s16 | .s32 => some w.toInt
  | .f32 => none

/-- What a binary32 pattern stands for (R138). -/
inductive Binary32 where
  /-- The number `mantissa * 2 ^ exponent`, negated when `negative`. -/
  | finite (negative : Bool) (mantissa : Nat) (exponent : Int)
  | infinite (negative : Bool)
  | notANumber
  deriving DecidableEq, Repr

/-- The caller-facing value of an F32 element: the IEEE 754 binary32 reading of its pattern, sign in bit 31, exponent in bits
30 to 23, fraction in bits 22 to 0 (R138).  The block computes nothing on it: no rule calls this.  Log entry 15. -/
def binary32 (w : Word) : Binary32 :=
  let negative := w.getLsbD 31
  let exponent := (w.extractLsb' 23 8).toNat
  let fraction := (w.extractLsb' 0 23).toNat
  if exponent = 255 then (if fraction = 0 then .infinite negative else .notANumber)
  else if exponent = 0 then .finite negative fraction (-149)
  else .finite negative (fraction + 2 ^ 23) (exponent - 150)

/-- TXLEN (R27). -/
def State.txlen (s : State) : Nat := s.mem.txbuf.length

/-- RXLEN (R28). -/
def State.rxlen (s : State) : Nat := s.mem.rxbuf.length

/-- VALLEN, the count of a variable-length frame (R15, R30). -/
def State.vallen (s : State) : Nat := s.mem.valbuf.length

/-- OUT_COUNT (R31). -/
def State.outCount (s : State) : Nat := s.mem.outbuf.length

/-- The payload window `RXBUF[3 : 3 + PAY_LEN)` (R29, R132). -/
def State.payload (s : State) : List Byte := memRead s.mem.rxbuf 3 s.payLen.toNat

/-- The retry count of a WRSR: OP_RETRY when RETRY_EN is set, else the default (R16, R17, R152). -/
def State.retryCount (s : State) : Half := if s.opCtrl.retryEn then s.opRetry else s.cfgDefaultRetry

/-- The tag a decode would use; `none` for a reserved one (R72). -/
def State.dataType (s : State) : Option DataType := DataType.ofTag s.opCtrl.dtype

/-- The values the transport sees at all times (R18, R170). -/
def State.tpTimeouts (s : State) : BitVec Config.timeoutW × BitVec Config.timeoutW := (s.cfgRespTimeout, s.cfgQueueTimeout)

/-- The header BLDF builds from the operand registers (R101). -/
def State.fixedHeader (s : State) (func : Byte) : List Byte := buildFixed s.opSlave func s.opF1 s.opF2

/-- The header and payload BLDV builds from the operand registers and VALBUF (R103). -/
def State.varHeader (s : State) (func : Byte) : List Byte := buildVar s.opSlave func s.opF1 s.mem.valbuf

/-- The header of WRSR's request, from the latched context (R154). -/
def State.ctxHeader (s : State) : List Byte := buildFixed s.ctxSlave fnWriteSingle s.ctxReg s.ctxValue

end Sys2Proof.Machine
end

