-- ==== Sys2Proof/Machine/Ops.lean ====
section
/-! DEFINITION. The operations the meanings share: output events, the acceptance prologue, the two ends of a command
(`end_ok`, and `raise`, which is how this block takes an exception), the writes of the buffers, the submit, the receive
step, the strip and the decode. -/

namespace Sys2Proof.Machine

/-! ### Outputs -/

/-- `emit ev` (R7): events are kept in the order they are emitted (R54). -/
def State.emit (e : Event) (s : State) : State := { s with trace := s.trace ++ [e] }

/-- The answer of a host transaction (R192 to R195). -/
def State.answerHost (r : Reply) (s : State) : State := { s with replies := s.replies ++ [r] }

/-! ### The acceptance and the ends of a command -/

/-- The acceptance prologue, common to all commands (R196).  It is also the return from an error: "a failed command leaves
the block idle ...; the acceptance prologue then clears ST, ERR_CODE, ERR_TP and ERR_CAUSE" (R215). -/
def State.accept (code : BitVec 4) (s : State) : State :=
  { s with
    curCmd := code
    st := .none
    errCode := .none
    errTp := 0
    errCause := .none
    rcState := .idle
    remaining := 0
    attempts := 0
    rcN := 0 }

/-- `end_ok` (R196). -/
def State.endOk (s : State) : State := { s with st := .ok, phase := .idle }.emit .doneOk

/-- `raise E` (R203): "nothing is saved anywhere else: there is no stack, no saved sequencer state, no mode change". -/
def State.raise (e : ErrCode) (s : State) : State := { s with errCode := e, st := .err, phase := .idle }.emit .doneErr

/-- `Cmd(code)` (R196): rejected while PHASE = AWAIT with `cmd_reject` and no other effect; otherwise the prologue, then
the command's own rule. -/
def State.command (code : BitVec 4) (body : State → State) (s : State) : State :=
  match s.phase with
  | .await => s.emit .cmdReject
  | .idle => body (s.accept code)

/-! ### Buffers -/

/-- A write of the whole of TXBUF and TXLEN. -/
def Memory.putTx (b : List Byte) (m : Memory) : Memory := { m with txbuf := b }

/-- A write of the whole of RXBUF and RXLEN. -/
def Memory.putRx (b : List Byte) (m : Memory) : Memory := { m with rxbuf := b }

/-- A write of the whole of VALBUF and VALLEN. -/
def Memory.putVal (b : List Half) (m : Memory) : Memory := { m with valbuf := b }

/-- A write of the whole of OUTBUF and OUT_COUNT. -/
def Memory.putOut (b : List Word) (m : Memory) : Memory := { m with outbuf := b }

/-- A fresh frame without trailer: TXBUF replaced, TXST OPEN (R27, R101, R103, R194). -/
def State.openTx (h : List Byte) (s : State) : State := { s with mem := s.mem.putTx h, txst := .open }

/-- A frame with its trailer: `h ‖ le16(crc16(h))` in TXBUF, TXST SEALED, CRCR the code (R116, R154, R186, R188). -/
def State.sealTx (h : List Byte) (s : State) : State :=
  { s with mem := s.mem.putTx (appendTrailer h), txst := .sealed, crcr := crc16 h }

/-- `emit tp_submit(TXBUF whole)`, then PHASE = AWAIT (R154, R173, R186, R188). -/
def State.submit (s : State) : State := { s with phase := .await }.emit (.tpSubmit s.mem.txbuf)

/-- `receive_and_validate(bytes)` (R176): the response is stored before it is judged. -/
def State.receive (bytes : List Byte) (s : State) : State := { s with mem := s.mem.putRx bytes }.clearRxFlags.judgeRx

/-- The header strip (R131, R132): `none` below five bytes, else PAY_LEN and PAY_VALID. -/
def State.stripRx (s : State) : Option State :=
  if s.rxlen < 5 then none else some { s with payLen := BitVec.ofNat 16 (s.rxlen - 5), payValid := true }

/-- OUTBUF, OUT_COUNT and OUT_KIND written (R31). -/
def State.putOut (kind : BitVec 4) (elems : List Word) (s : State) : State :=
  { s with mem := s.mem.putOut elems, outKind := kind }

/-- The decode of the payload (R139, R141, R187): bypass when XFORM is set; else a reserved tag is a PreconditionError, and
a length that is no multiple of the element width is a DecodeError. -/
def State.decodePayload (s : State) : Except ErrCode State :=
  if s.opCtrl.xform then .ok (s.putOut 0b1000#4 (s.payload.map zextByte))
  else
    match s.dataType with
    | none => .error .preconditionError
    | some t =>
      if s.payLen.toNat % t.width ≠ 0 then .error .decodeError
      else .ok (s.putOut (t.tag.setWidth 4) (t.elements s.payload))

/-- The end of a command that decodes: `end_ok`, or the decode's error raised on the state as it stands (R141, R187). -/
def State.endDecode (s : State) : State :=
  match s.decodePayload with
  | .ok t => t.endOk
  | .error e => s.raise e

end Sys2Proof.Machine
end

