-- ==== Sys2Proof/Machine/CrcTrailer.lean ====
section
/-! DEFINITION. Frame Codec, the integrity code: CRCG, APPT and VALT (rules R114, R116, R118). -/

namespace Sys2Proof.Machine

/-- The body of CRCG (R114). -/
def crcgBody (s : State) : State := { s with crcr := crc16 s.mem.txbuf }.endOk

/-- CRCG, command code 0xB (R114). -/
def execCrcg (s : State) : Host.Outcome State Fault Refusal := .next (s.command 0xB#4 crcgBody)

/-- The body of APPT (R116). -/
def apptBody (s : State) : State :=
  match s.txst with
  | .open => (s.sealTx s.mem.txbuf).endOk
  | .empty | .sealed | .spent => s.raise .preconditionError

/-- APPT, command code 0x3 (R116). -/
def execAppt (s : State) : Host.Outcome State Fault Refusal := .next (s.command 0x3#4 apptBody)

/-- The body of VALT (R118). -/
def valtBody (s : State) : State :=
  match validate s.mem.rxbuf with
  | .ok => s.judgeRx.endOk
  | .crcMismatch => s.judgeRx.raise .crcMismatch

/-- VALT, command code 0x4 (R118). -/
def execValt (s : State) : Host.Outcome State Fault Refusal := .next (s.command 0x4#4 valtBody)

end Sys2Proof.Machine
end

