-- ==== Sys2Proof/Machine/HostPort.lean ====
section
/-! DEFINITION. The register map (rule R11) and the host's transactions other than the command issue (rules R192 to R195), and
the reset input (R230, R231). -/

namespace Sys2Proof.Machine

/-- The registers of R11. -/
inductive Reg where
  | opSlave
  | opFunc
  | opF1
  | opF2
  | opRetry
  | opCtrl
  | cfgDefaultRetry
  | cfgRespTimeout
  | cfgQueueTimeout
  | status
  | curCmd
  | errCode
  | errTp
  | errCause
  | rcState
  | remaining
  | attempts
  | rcN
  | ctxSlave
  | ctxReg
  | ctxValue
  | crcr
  | crcx
  | txlen
  | txst
  | rxlen
  | rxflags
  | payLen
  | outCount
  | outKind
  | vallen
  deriving DecidableEq, Repr

/-- The register of an index; an index not in the table is unassigned (R11). -/
def Reg.ofIndex : Nat → Option Reg
  | 0x00 => some .opSlave
  | 0x01 => some .opFunc
  | 0x02 => some .opF1
  | 0x03 => some .opF2
  | 0x04 => some .opRetry
  | 0x05 => some .opCtrl
  | 0x08 => some .cfgDefaultRetry
  | 0x09 => some .cfgRespTimeout
  | 0x0A => some .cfgQueueTimeout
  | 0x10 => some .status
  | 0x11 => some .curCmd
  | 0x12 => some .errCode
  | 0x13 => some .errTp
  | 0x14 => some .errCause
  | 0x18 => some .rcState
  | 0x19 => some .remaining
  | 0x1A => some .attempts
  | 0x1B => some .rcN
  | 0x1C => some .ctxSlave
  | 0x1D => some .ctxReg
  | 0x1E => some .ctxValue
  | 0x20 => some .crcr
  | 0x21 => some .crcx
  | 0x22 => some .txlen
  | 0x23 => some .txst
  | 0x24 => some .rxlen
  | 0x25 => some .rxflags
  | 0x26 => some .payLen
  | 0x27 => some .outCount
  | 0x28 => some .outKind
  | 0x29 => some .vallen
  | _ => none

/-- The class RW of R11; every other register is RO. -/
def Reg.writable : Reg → Bool
  | .opSlave | .opFunc | .opF1 | .opF2 | .opRetry | .opCtrl => true
  | .cfgDefaultRetry | .cfgRespTimeout | .cfgQueueTimeout => true
  | _ => false

/-- The present value of a register, zero-extended to 16 bits, or to TIMEOUT_W for the timeout registers (R193). -/
def State.regValue (s : State) : Reg → Reply
  | .opSlave => .value (s.opSlave.setWidth 16)
  | .opFunc => .value (s.opFunc.setWidth 16)
  | .opF1 => .value s.opF1
  | .opF2 => .value s.opF2
  | .opRetry => .value s.opRetry
  | .opCtrl => .value s.opCtrl.num
  | .cfgDefaultRetry => .value s.cfgDefaultRetry
  | .cfgRespTimeout => .timeoutValue s.cfgRespTimeout
  | .cfgQueueTimeout => .timeoutValue s.cfgQueueTimeout
  | .status => .value (s.status.setWidth 16)
  | .curCmd => .value (s.curCmd.setWidth 16)
  | .errCode => .value (s.errCode.num.setWidth 16)
  | .errTp => .value (s.errTp.setWidth 16)
  | .errCause => .value (s.errCause.num.setWidth 16)
  | .rcState => .value (s.rcState.num.setWidth 16)
  | .remaining => .value s.remaining
  | .attempts => .value s.attempts
  | .rcN => .value s.rcN
  | .ctxSlave => .value (s.ctxSlave.setWidth 16)
  | .ctxReg => .value s.ctxReg
  | .ctxValue => .value s.ctxValue
  | .crcr => .value s.crcr
  | .crcx => .value s.crcx
  | .txlen => .value (BitVec.ofNat 16 s.txlen)
  | .txst => .value (s.txst.num.setWidth 16)
  | .rxlen => .value (BitVec.ofNat 16 s.rxlen)
  | .rxflags => .value (s.rxflags.setWidth 16)
  | .payLen => .value s.payLen
  | .outCount => .value (BitVec.ofNat 16 s.outCount)
  | .outKind => .value (s.outKind.setWidth 16)
  | .vallen => .value (BitVec.ofNat 16 s.vallen)

/-- A write of a register: the value truncated to the register's width, an RO register left alone (R192). -/
def State.putReg (r : Reg) (v : Nat) (s : State) : State :=
  match r with
  | .opSlave => { s with opSlave := BitVec.ofNat 8 v }
  | .opFunc => { s with opFunc := BitVec.ofNat 8 v }
  | .opF1 => { s with opF1 := BitVec.ofNat 16 v }
  | .opF2 => { s with opF2 := BitVec.ofNat 16 v }
  | .opRetry => { s with opRetry := BitVec.ofNat 16 v }
  | .opCtrl => { s with opCtrl := OpCtrl.ofNum (BitVec.ofNat 16 v) }
  | .cfgDefaultRetry => { s with cfgDefaultRetry := BitVec.ofNat 16 v }
  | .cfgRespTimeout => { s with cfgRespTimeout := BitVec.ofNat _ v }
  | .cfgQueueTimeout => { s with cfgQueueTimeout := BitVec.ofNat _ v }
  | _ => s

/-- `RegWrite(index, value)` (R192). -/
def regWrite (index value : Nat) (s : State) : State :=
  match s.phase with
  | .await => s.answerHost .rejected
  | .idle =>
    match Reg.ofIndex index with
    | none => s.answerHost .rejected
    | some r => if r.writable then (s.putReg r value).answerHost .accepted else s.answerHost .rejected

/-- `RegRead(index)` (R193): no effect on the block, in any PHASE. -/
def regRead (index : Nat) (s : State) : State :=
  match Reg.ofIndex index with
  | none => s.answerHost .rejected
  | some r => s.answerHost (s.regValue r)

/-- The sequence is within the limit of its buffer: TXBUF 261 bytes, RXBUF 263 bytes, VALBUF 127 words (R194). -/
def Load.fits : Load → Bool
  | .txbuf b => decide (b.length ≤ Config.frameMax - 2)
  | .rxbuf b => decide (b.length ≤ Config.frameMax)
  | .valbuf b => decide (b.length ≤ Config.valMax)

/-- The effect of an accepted load (R194). -/
def State.load (l : Load) (s : State) : State :=
  match l with
  | .txbuf b => s.openTx b
  | .rxbuf b => { s with mem := s.mem.putRx b }.clearRxFlags
  | .valbuf b => { s with mem := s.mem.putVal b }

/-- `BufLoad(S, seq)` (R194). -/
def bufLoad (l : Load) (s : State) : State :=
  match s.phase with
  | .await => s.answerHost .rejected
  | .idle => if l.fits then (s.load l).answerHost .accepted else s.answerHost .rejected

/-- The valid length of a buffer (R40, R195). -/
def State.validLength (s : State) : Space → Nat
  | .txbuf => s.txlen
  | .rxbuf => s.rxlen
  | .valbuf => s.vallen
  | .outbuf => s.outCount

/-- The `n` units of a buffer from index `a` (R7, R195). -/
def State.units (s : State) (a n : Nat) : Space → Reply
  | .txbuf => .bytes (memRead s.mem.txbuf a n)
  | .rxbuf => .bytes (memRead s.mem.rxbuf a n)
  | .valbuf => .halves (memRead s.mem.valbuf a n)
  | .outbuf => .words (memRead s.mem.outbuf a n)

/-- `BufRead(S, a, n)` (R195): beyond the valid length it is rejected; no effect on the block, in any PHASE. -/
def bufRead (space : Space) (a n : Nat) (s : State) : State :=
  if s.validLength space < a + n then s.answerHost .rejected else s.answerHost (s.units a n space)

/-- The reset input (R230, R231): every register and buffer as after reset, no event emitted; what the environment will do
and what was already emitted are no state of the block (log entry 3). -/
def State.applyReset (s : State) : State :=
  { State.reset with inbox := s.inbox, trace := s.trace, replies := s.replies }

end Sys2Proof.Machine
end

