-- ==== Sys2Proof/Machine/DataTypes.lean ====
section
/-! DEFINITION. The DataType rows.  The table gives each as a match on OP_CTRL[4:2], and the one way such a value comes to
the block is `RegWrite(OP_CTRL, value)` (R16, R192; in a script `WR OP_CTRL, ... DTYPE=U16`), so that is what a DataType
row does (log entry 5).  The decode under each tag is `DataType.elements`, run by DECD and RDHR. -/

namespace Sys2Proof.Machine

/-- `RegWrite` of OP_CTRL, index 0x05 (R11, R192). -/
def State.writeOpCtrl (retryEn xform : Bool) (dtype : BitVec 3) (s : State) : State :=
  regWrite 0x05 (opCtrlWord retryEn xform dtype).toNat s

/-- DTYPE_U16 (R72, R135). -/
def execDtypeU16 (retryEn xform : Bool) (s : State) : Host.Outcome State Fault Refusal :=
  .next (s.writeOpCtrl retryEn xform 0#3)

/-- DTYPE_S16 (R72, R136). -/
def execDtypeS16 (retryEn xform : Bool) (s : State) : Host.Outcome State Fault Refusal :=
  .next (s.writeOpCtrl retryEn xform 1#3)

/-- DTYPE_U32 (R72, R137). -/
def execDtypeU32 (retryEn xform : Bool) (s : State) : Host.Outcome State Fault Refusal :=
  .next (s.writeOpCtrl retryEn xform 2#3)

/-- DTYPE_S32 (R72, R137). -/
def execDtypeS32 (retryEn xform : Bool) (s : State) : Host.Outcome State Fault Refusal :=
  .next (s.writeOpCtrl retryEn xform 3#3)

/-- DTYPE_F32 (R72, R138). -/
def execDtypeF32 (retryEn xform : Bool) (s : State) : Host.Outcome State Fault Refusal :=
  .next (s.writeOpCtrl retryEn xform 4#3)

/-- DTYPE_RAW (R72, R140). -/
def execDtypeRaw (retryEn xform : Bool) (s : State) : Host.Outcome State Fault Refusal :=
  .next (s.writeOpCtrl retryEn xform 5#3)

/-- DTYPE_RESERVED_6 (R72): the write is accepted; DECD and RDHR refuse the tag when XFORM is 0. -/
def execDtypeReserved6 (retryEn xform : Bool) (s : State) : Host.Outcome State Fault Refusal :=
  .next (s.writeOpCtrl retryEn xform 6#3)

/-- DTYPE_RESERVED_7 (R72): the write is accepted; DECD and RDHR refuse the tag when XFORM is 0. -/
def execDtypeReserved7 (retryEn xform : Bool) (s : State) : Host.Outcome State Fault Refusal :=
  .next (s.writeOpCtrl retryEn xform 7#3)

end Sys2Proof.Machine
end

