-- ==== Sys2Proof/Machine/FrameBuild.lean ====
section
/-! DEFINITION. Frame Codec, request packet assembly: BLDF and BLDV (rules R101 to R105). -/

namespace Sys2Proof.Machine

/-- The body of BLDF (R101). -/
def bldfBody (s : State) : State := (s.openTx (s.fixedHeader s.opFunc)).endOk

/-- BLDF, command code 0x1 (R101). -/
def execBldf (s : State) : Host.Outcome State Fault Refusal := .next (s.command 0x1#4 bldfBody)

/-- The body of BLDV (R103). -/
def bldvBody (s : State) : State := (s.openTx (s.varHeader s.opFunc)).endOk

/-- BLDV, command code 0x2 (R103). -/
def execBldv (s : State) : Host.Outcome State Fault Refusal := .next (s.command 0x2#4 bldvBody)

end Sys2Proof.Machine
end

