-- ==== Sys2Proof/Machine/Orchestrator.lean ====
section
/-! DEFINITION. Request Orchestrator: REQ, and the completions it shares with RDHR and WRMR (rules R173 to R179). -/

namespace Sys2Proof.Machine

/-- The body of REQ (R173): nothing is submitted unless the frame is sealed. -/
def reqBody (s : State) : State :=
  match s.txst with
  | .sealed => s.submit
  | .empty | .open | .spent => s.raise .preconditionError

/-- REQ, command code 0x7 (R173). -/
def execReq (s : State) : Host.Outcome State Fault Refusal := .next (s.command 0x7#4 reqBody)

/-- Transport failure of REQ, RDHR and WRMR (R175): nothing was received, nothing is retried (R178). -/
def State.transportFailed (e : Byte) (s : State) : State := { s with txst := .spent, errTp := e }.raise .transportError

/-- A received response with the frame spent (R176, R177, R187). -/
def State.received (bytes : List Byte) (s : State) : State := { s.receive bytes with txst := .spent }

/-- REQ on the transport's answer (R175, R177). -/
def answerReq (r : TpResult) (s : State) : State :=
  match r with
  | .fail e => s.transportFailed e
  | .ok bytes =>
    match validate bytes with
    | .ok => (s.received bytes).endOk
    | .crcMismatch => (s.received bytes).raise .crcMismatch

end Sys2Proof.Machine
end

