-- ==== Sys2Proof/Machine/PublicOps.lean ====
section
/-! DEFINITION. Public operations RDHR and WRMR (rules R186 to R189) and the pseudo-operations MKFIXED and MKVAR (R191). -/

namespace Sys2Proof.Machine

/-- The reserved-tag check of RDHR, made before any traffic (R186). -/
def State.tagUsable (s : State) : Bool := s.opCtrl.xform || s.dataType.isSome

/-- The body of RDHR (R186). -/
def rdhrBody (s : State) : State :=
  if s.tagUsable then (s.sealTx (s.fixedHeader fnReadHolding)).submit else s.raise .preconditionError

/-- RDHR, command code 0x8 (R186). -/
def execRdhr (s : State) : Host.Outcome State Fault Refusal := .next (s.command 0x8#4 rdhrBody)

/-- RDHR on the transport's answer (R187): validate, strip, decode, the first failure raised. -/
def answerRdhr (r : TpResult) (s : State) : State :=
  match r with
  | .fail e => s.transportFailed e
  | .ok bytes =>
    match validate bytes with
    | .crcMismatch => (s.received bytes).raise .crcMismatch
    | .ok =>
      match (s.received bytes).stripRx with
      | none => (s.received bytes).raise .decodeError
      | some t => t.endDecode

/-- The body of WRMR (R188). -/
def wrmrBody (s : State) : State := (s.sealTx (s.varHeader fnWriteMultiple)).submit

/-- WRMR, command code 0xA (R188). -/
def execWrmr (s : State) : Host.Outcome State Fault Refusal := .next (s.command 0xA#4 wrmrBody)

/-- WRMR on the transport's answer: "exactly the two rules of REQ" (R189). -/
def answerWrmr (r : TpResult) (s : State) : State := answerReq r s

/-- MKFIXED, the command sequence BLDF, APPT (R191).  Log entry 6. -/
def execMkfixed (s : State) : Host.Outcome State Fault Refusal :=
  .next ((s.command 0x1#4 bldfBody).command 0x3#4 apptBody)

/-- MKVAR, the command sequence BLDV, APPT (R191).  Log entry 6. -/
def execMkvar (s : State) : Host.Outcome State Fault Refusal :=
  .next ((s.command 0x2#4 bldvBody).command 0x3#4 apptBody)

end Sys2Proof.Machine
end

