-- ==== Sys2Proof/Machine/Reserved.lean ====
section
/-! DEFINITION. The reserved command codes (rules R71, R211): accepted while idle, and ended at once with IllegalCommand. -/

namespace Sys2Proof.Machine

/-- The body of a reserved code (R196, R211). -/
def illegalBody (s : State) : State := s.raise .illegalCommand

/-- RESERVED_0, code 0x0 (R71). -/
def execReserved0 (s : State) : Host.Outcome State Fault Refusal := .next (s.command 0x0#4 illegalBody)

/-- RESERVED_C, code 0xC (R71). -/
def execReservedC (s : State) : Host.Outcome State Fault Refusal := .next (s.command 0xC#4 illegalBody)

/-- RESERVED_D, code 0xD (R71). -/
def execReservedD (s : State) : Host.Outcome State Fault Refusal := .next (s.command 0xD#4 illegalBody)

/-- RESERVED_E, code 0xE (R71). -/
def execReservedE (s : State) : Host.Outcome State Fault Refusal := .next (s.command 0xE#4 illegalBody)

/-- RESERVED_F, code 0xF (R71). -/
def execReservedF (s : State) : Host.Outcome State Fault Refusal := .next (s.command 0xF#4 illegalBody)

end Sys2Proof.Machine
end

