-- ==== Sys2Proof/Machine/ResponseDecoder.lean ====
section
/-! DEFINITION. Response Decoder: STRP and DECD (rules R132, R133, R141). -/

namespace Sys2Proof.Machine

/-- The body of STRP (R132): no byte of RXBUF is read (R133). -/
def strpBody (s : State) : State :=
  if s.rxValid then
    match s.stripRx with
    | some t => t.endOk
    | none => { s with payValid := false }.raise .decodeError
  else s.raise .preconditionError

/-- STRP, command code 0x5 (R132). -/
def execStrp (s : State) : Host.Outcome State Fault Refusal := .next (s.command 0x5#4 strpBody)

/-- The body of DECD (R141): a clear PAY_VALID is reported before a reserved tag, and that before a length mismatch
(R214). -/
def decdBody (s : State) : State := if s.payValid then s.endDecode else s.raise .preconditionError

/-- DECD, command code 0x6 (R141). -/
def execDecd (s : State) : Host.Outcome State Fault Refusal := .next (s.command 0x6#4 decdBody)

end Sys2Proof.Machine
end

