-- ==== Sys2Proof/Machine/Retry.lean ====
section
/-! DEFINITION. Retry Controller: WRSR and its attempts (rules R150 to R163). -/

namespace Sys2Proof.Machine

/-- `exhaust` (R160). -/
def State.exhaust (s : State) : State :=
  if 0 < s.attempts.toNat then { s with rcState := .exhausted, txst := .spent }.raise .retryLimitExceeded
  else { s with rcState := .exhausted }.raise .retryLimitExceeded

/-- The request of a WRSR, built and sealed once, at the first attempt (R154, D32). -/
def State.firstBuild (s : State) : State := if s.attempts = 0 then s.sealTx s.ctxHeader else s

/-- `start_attempt` (R154). -/
def State.startAttempt (s : State) : State := { s.firstBuild with attempts := s.attempts + 1 }.submit

/-- `retry_head`, the guard, on the signed value (R153). -/
def State.retryHead (s : State) : State := if s.remaining.toInt ≤ 0 then s.exhaust else s.startAttempt

/-- The loading of a WRSR's retry budget and context (R152). -/
def State.loadRetry (s : State) : State :=
  { s with
    rcN := s.retryCount
    remaining := s.retryCount
    attempts := 0
    ctxSlave := s.opSlave
    ctxReg := s.opF1
    ctxValue := s.opF2
    rcState := .attempting }

/-- The body of WRSR: one step up to the first submit or to `exhaust` (R152). -/
def wrsrBody (s : State) : State := s.loadRetry.retryHead

/-- WRSR, command code 0x9 (R152). -/
def execWrsr (s : State) : Host.Outcome State Fault Refusal := .next (s.command 0x9#4 wrsrBody)

/-- The log record of the attempt that has just failed (R156, R158, R159). -/
def State.logRecord (cause : ErrCode) (tp : Byte) (s : State) : LogRecord :=
  { slave := s.ctxSlave, register := s.ctxReg, value := s.ctxValue, k := s.attempts, n := s.rcN, cause := cause, tp := tp }

/-- Failure of an attempt (R156): the record is emitted before the next submit. -/
def State.attemptFailed (cause : ErrCode) (tp : Byte) (s : State) : State :=
  ({ s with errCause := cause, errTp := tp, remaining := s.remaining - 1 }.emit (.log (s.logRecord cause tp))).retryHead

/-- Success of an attempt (R155). -/
def State.attemptSucceeded (s : State) : State :=
  { s with rcState := .succeeded, txst := .spent, errTp := 0, errCause := .none }.endOk

/-- WRSR on the transport's answer (R155, R156). -/
def answerWrsr (r : TpResult) (s : State) : State :=
  match r with
  | .fail e => s.attemptFailed .transportError e
  | .ok bytes =>
    match validate bytes with
    | .ok => (s.receive bytes).attemptSucceeded
    | .crcMismatch => (s.receive bytes).attemptFailed .crcMismatch 0

end Sys2Proof.Machine
end

