-- ==== Sys2Proof/Machine/Transport.lean ====
section
/-! DEFINITION. The transport port (rules R170 to R172, R174, R180, R181): what one `tp_result` does. -/

namespace Sys2Proof.Machine

/-- TP_QUEUE_TIMEOUT, a name for scripts; the block treats every failure code alike (R172). -/
def tpQueueTimeout : Byte := 0x01#8

/-- TP_RESPONSE_TIMEOUT (R172). -/
def tpResponseTimeout : Byte := 0x02#8

/-- TP_IO_ERROR (R172). -/
def tpIoError : Byte := 0x03#8

/-- The frame is one the port's contract allows: 0 to FRAME_MAX bytes (R170). -/
def TpResult.fits : TpResult → Bool
  | .ok bytes => decide (bytes.length ≤ Config.frameMax)
  | .fail _ => true

/-- The answer given to the command in flight, by CUR_CMD (R174, R177, R187, R189, R155, R156). -/
def State.answerCommand (r : TpResult) (s : State) : Host.Outcome State Fault Refusal :=
  match s.curCmd.toNat with
  | 0x7 => .next (answerReq r s)
  | 0x8 => .next (answerRdhr r s)
  | 0x9 => .next (answerWrsr r s)
  | 0xA => .next (answerWrmr r s)
  | _ => .fault .awaitWithoutCommand

/-- `tp_result` (R170): an over-long frame has no meaning (R181, log entry 10); with no submit outstanding the answer is
dropped (R180); in AWAIT it goes to the command in flight (R174). -/
def tpResult (r : TpResult) (s : State) : Host.Outcome State Fault Refusal :=
  if r.fits then
    match s.phase with
    | .idle => .next s
    | .await => s.answerCommand r
  else .refused .oversizeResponse

end Sys2Proof.Machine
end

