-- ==== Sys2Proof/Machine/WireFrames.lean ====
section
/-! DEFINITION. The wire-frame rows.  A frame is no command: no rule lets the host issue one.  The one port by which a whole
wire frame comes to the block is the transport's, `tp_result(Ok, bytes)` (R170; in a script `TP OK` and the frame), so
that is what a frame row does (log entry 4): the frame is the answer to the request in flight (R155, R156, R177, R187,
R189), and is dropped when there is none (R180).  The block inspects no field of it but the trailer (R65, R73, R133).
That the block itself builds and submits the frames of these rows is stated of the commands. -/

namespace Sys2Proof.Machine

/-- FRAME_FIXED (R61). -/
def execFrameFixed (slave func : Byte) (field1 field2 : Half) (s : State) : Host.Outcome State Fault Refusal :=
  tpResult (.ok (wireFixed slave func field1 field2)) s

/-- FRAME_READ_HOLDING (R61, R62, R67). -/
def execFrameReadHolding (slave : Byte) (start length : Half) (s : State) : Host.Outcome State Fault Refusal :=
  tpResult (.ok (wireFixed slave fnReadHolding start length)) s

/-- FRAME_WRITE_SINGLE (R61, R62, R67): the frame MRTU's acknowledgement of a write is in the standard protocol (R65). -/
def execFrameWriteSingle (slave : Byte) (register value : Half) (s : State) : Host.Outcome State Fault Refusal :=
  tpResult (.ok (wireFixed slave fnWriteSingle register value)) s

/-- FRAME_WRITE_MULTIPLE (R63, R67). -/
def execFrameWriteMultiple (slave : Byte) (start : Half) (values : List Half) (s : State) :
    Host.Outcome State Fault Refusal :=
  tpResult (.ok (wireVar slave fnWriteMultiple start values)) s

/-- FRAME_VAR (R63). -/
def execFrameVar (slave func : Byte) (start : Half) (values : List Half) (s : State) :
    Host.Outcome State Fault Refusal :=
  tpResult (.ok (wireVar slave func start values)) s

/-- FRAME_RESP_READ (R64). -/
def execFrameRespRead (slave func byteCount : Byte) (payload : List Byte) (s : State) :
    Host.Outcome State Fault Refusal :=
  tpResult (.ok (wireRespRead slave func byteCount payload)) s

/-- TRAILER (R60, R66): any frame with its last two bytes as found, which the validation judges (R117, R176). -/
def execTrailer (body : List Byte) (low high : Byte) (s : State) : Host.Outcome State Fault Refusal :=
  tpResult (.ok (wireAny body low high)) s

end Sys2Proof.Machine
end

