-- ==== Sys2Proof/Machine/Dispatch.lean ====
section
/-! DEFINITION. One arm per row of spec/opcode_table.json. -/

namespace Sys2Proof.Machine

def exec (i : Instr) (s : State) : Host.Outcome State Fault Refusal :=
  match i with
  -- commands (R70)
  | .bldf => Sys2Proof.Machine.execBldf s
  | .bldv => Sys2Proof.Machine.execBldv s
  | .appt => Sys2Proof.Machine.execAppt s
  | .valt => Sys2Proof.Machine.execValt s
  | .strp => Sys2Proof.Machine.execStrp s
  | .decd => Sys2Proof.Machine.execDecd s
  | .req => Sys2Proof.Machine.execReq s
  | .rdhr => Sys2Proof.Machine.execRdhr s
  | .wrsr => Sys2Proof.Machine.execWrsr s
  | .wrmr => Sys2Proof.Machine.execWrmr s
  | .crcg => Sys2Proof.Machine.execCrcg s
  -- reserved command codes (R71)
  | .reserved0 => Sys2Proof.Machine.execReserved0 s
  | .reservedC => Sys2Proof.Machine.execReservedC s
  | .reservedD => Sys2Proof.Machine.execReservedD s
  | .reservedE => Sys2Proof.Machine.execReservedE s
  | .reservedF => Sys2Proof.Machine.execReservedF s
  -- pseudo-operations (R191)
  | .mkfixed => Sys2Proof.Machine.execMkfixed s
  | .mkvar => Sys2Proof.Machine.execMkvar s
  -- wire frames (R60 to R67)
  | .frameFixed slave func field1 field2 => Sys2Proof.Machine.execFrameFixed slave func field1 field2 s
  | .frameReadHolding slave start length => Sys2Proof.Machine.execFrameReadHolding slave start length s
  | .frameWriteSingle slave register value => Sys2Proof.Machine.execFrameWriteSingle slave register value s
  | .frameWriteMultiple slave start values => Sys2Proof.Machine.execFrameWriteMultiple slave start values s
  | .frameVar slave func start values => Sys2Proof.Machine.execFrameVar slave func start values s
  | .frameRespRead slave func byteCount payload => Sys2Proof.Machine.execFrameRespRead slave func byteCount payload s
  | .trailer body low high => Sys2Proof.Machine.execTrailer body low high s
  -- DataType tags (R72)
  | .dtypeU16 retryEn xform => Sys2Proof.Machine.execDtypeU16 retryEn xform s
  | .dtypeS16 retryEn xform => Sys2Proof.Machine.execDtypeS16 retryEn xform s
  | .dtypeU32 retryEn xform => Sys2Proof.Machine.execDtypeU32 retryEn xform s
  | .dtypeS32 retryEn xform => Sys2Proof.Machine.execDtypeS32 retryEn xform s
  | .dtypeF32 retryEn xform => Sys2Proof.Machine.execDtypeF32 retryEn xform s
  | .dtypeRaw retryEn xform => Sys2Proof.Machine.execDtypeRaw retryEn xform s
  | .dtypeReserved6 retryEn xform => Sys2Proof.Machine.execDtypeReserved6 retryEn xform s
  | .dtypeReserved7 retryEn xform => Sys2Proof.Machine.execDtypeReserved7 retryEn xform s

end Sys2Proof.Machine
end

