-- ==== Sys2Proof/Machine/Step.lean ====
section
/-! DEFINITION. One step: the next input of the environment's script, consumed whole (rules R9, R49, D1).  With no input the
block does nothing: it "waits in IDLE" (R34), or stays in AWAIT, which it cannot leave by itself (R174, R240). -/

namespace Sys2Proof.Machine

/-- A word of the opcode table at its port: decoded and run. -/
def runWord (fmt : Format) (bytes : List Byte) (s : State) : Host.Outcome State Fault Refusal :=
  match decode fmt bytes with
  | .ok i => exec i s
  | .error r => .refused (.notAnInstruction r)

/-- One input. -/
def deliver (input : Input) (s : State) : Host.Outcome State Fault Refusal :=
  match input with
  | .word fmt bytes => runWord fmt bytes s
  | .regWrite index value => .next (regWrite index value s)
  | .regRead index => .next (regRead index s)
  | .bufLoad load => .next (bufLoad load s)
  | .bufRead space a n => .next (bufRead space a n s)
  | .tpResult r => tpResult r s
  | .reset => .next s.applyReset

/-- One step of the machine. -/
def step (s : State) : Host.Outcome State Fault Refusal :=
  match s.inbox with
  | [] => .next s
  | input :: rest => deliver input { s with inbox := rest }

/-- The state with the table's word as the next input, so that the next step runs it.  Log entry 8. -/
def State.withFetchWord (s : State) (nbits w : Nat) : State :=
  { s with inbox := .word (tableWord nbits w).1 (tableWord nbits w).2 :: s.inbox }

end Sys2Proof.Machine
end

