-- ==== Sys2Proof/Safety.lean ====
section
/-! DEFINITION. What a safe state and a safe input are, in the terms the statements use: the invariants of rule R32, the
links between a command in flight and the registers it left, the inputs the ports' contracts allow, and the state of the
block without the model's own fields. -/

namespace Sys2Proof.Machine

/-- The state of the block alone (R10): the model's own three fields emptied. -/
def State.block (s : State) : State := { s with inbox := [], trace := [], replies := [] }

/-- R32 (a): PAY_VALID = 1 implies RX_VALID = 1 and RXLEN >= 5 and PAY_LEN = RXLEN - 5. -/
def State.PayloadOk (s : State) : Prop :=
  s.payValid = true → s.rxValid = true ∧ 5 ≤ s.rxlen ∧ s.payLen.toNat = s.rxlen - 5

/-- R32 (b): RX_VALID = 1 implies RXLEN >= 2 and the trailer agrees. -/
def State.ReceivedOk (s : State) : Prop :=
  s.rxValid = true → 2 ≤ s.rxlen ∧ crc16 (s.mem.rxbuf.take (s.rxlen - 2)) = u16le s.mem.rxbuf (s.rxlen - 2)

/-- R32 (c): TXST = EMPTY implies TXLEN = 0. -/
def State.EmptyOk (s : State) : Prop := s.txst = .empty → s.txlen = 0

/-- R32 (d): TXST = SEALED or SPENT implies TXLEN >= 2 and the last two bytes are the trailer of the others. -/
def State.SealedOk (s : State) : Prop :=
  s.txst = .sealed ∨ s.txst = .spent →
    2 ≤ s.txlen ∧ s.mem.txbuf.drop (s.txlen - 2) = le16 (crc16 (s.mem.txbuf.take (s.txlen - 2)))

/-- R32 (e): every length is within its capacity, and there is room for a trailer while TXST = OPEN. -/
def State.LengthsOk (s : State) : Prop := s.mem.wf = true ∧ (s.txst = .open → s.txlen ≤ Config.frameMax - 2)

/-- R32 (f): PHASE = AWAIT implies CUR_CMD is one of REQ, RDHR, WRSR, WRMR, TXST = SEALED and ST = NONE. -/
def State.AwaitOk (s : State) : Prop :=
  s.phase = .await →
    (s.curCmd = 0x7#4 ∨ s.curCmd = 0x8#4 ∨ s.curCmd = 0x9#4 ∨ s.curCmd = 0xA#4) ∧ s.txst = .sealed ∧ s.st = .none

/-- R32 (g): RC_STATE = ATTEMPTING implies CUR_CMD = WRSR and PHASE = AWAIT and REMAINING >= 1 and
ATTEMPTS = RC_N - REMAINING + 1. -/
def State.AttemptingOk (s : State) : Prop :=
  s.rcState = .attempting →
    s.curCmd = 0x9#4 ∧ s.phase = .await ∧ 1 ≤ s.remaining.toInt ∧
      (s.attempts.toNat : Int) = s.rcN.toInt - s.remaining.toInt + 1

/-- R32 (h): ST = ERR exactly when ERR_CODE is not 0. -/
def State.ErrorOk (s : State) : Prop := s.st = .err ↔ s.errCode ≠ .none

/-- The invariants of R32. -/
def State.Inv (s : State) : Prop :=
  s.PayloadOk ∧ s.ReceivedOk ∧ s.EmptyOk ∧ s.SealedOk ∧ s.LengthsOk ∧ s.AwaitOk ∧ s.AttemptingOk ∧ s.ErrorOk

/-- While WRSR is in flight the Retry Controller is attempting (R152, R156), no more attempts were started than its count
allows (R23), and at least one was started (R154). -/
def State.RetryLink (s : State) : Prop :=
  s.phase = .await ∧ s.curCmd = 0x9#4 →
    s.rcState = .attempting ∧ s.remaining.toInt ≤ s.rcN.toInt ∧ 1 ≤ s.attempts.toNat

/-- While RDHR is in flight the tag it was accepted with is still there (R56, R186). -/
def State.ReadLink (s : State) : Prop := s.phase = .await ∧ s.curCmd = 0x8#4 → s.tagUsable = true

/-- What a command in flight relies on beyond R32. -/
def State.Linked (s : State) : Prop := s.RetryLink ∧ s.ReadLink

/-- What R191 compares of two states: TXBUF, RXBUF, OUTBUF with their lengths, RX_VALID, PAY_LEN, PAY_VALID,
OUT_KIND, CRCR and CRCX (and VALBUF and TXST). -/
def State.SameResult (p q : State) : Prop :=
  p.mem = q.mem ∧ p.txst = q.txst ∧ p.rxValid = q.rxValid ∧ p.payLen = q.payLen ∧ p.payValid = q.payValid ∧
  p.outKind = q.outKind ∧ p.crcr = q.crcr ∧ p.crcx = q.crcx

/-- The input is one the ports' contracts allow: a word of the opcode table, a response of at most FRAME_MAX bytes (R170,
R181). -/
def Input.inContract : Input → Bool
  | .word fmt bytes => (decode fmt bytes).isOk
  | .tpResult r => r.fits
  | .regWrite _ _ | .regRead _ | .bufLoad _ | .bufRead _ _ _ | .reset => true

/-- The input can move a block that is in AWAIT: an answer of the transport or the reset (R174). -/
def Input.movesAwait : Input → Bool
  | .word .fixed _ | .word .var _ | .word .respRead _ | .word .anyFrame _ => true
  | .word .cmd4 _ | .word .pseudo _ | .word .opCtrl _ => false
  | .tpResult _ | .reset => true
  | .regWrite _ _ | .regRead _ | .bufLoad _ | .bufRead _ _ _ => false

/-- How many frames were submitted in a trace (R170). -/
def submitCount (t : List Event) : Nat := t.countP fun e => match e with | .tpSubmit _ => true | _ => false

/-- How many commands ended in a trace (R212). -/
def doneCount (t : List Event) : Nat := t.countP fun e => match e with | .doneOk => true | .doneErr => true | _ => false

/-- How many log records were emitted in a trace (R159). -/
def logCount (t : List Event) : Nat := t.countP fun e => match e with | .log _ => true | _ => false

/-- The errors the transport's answer may end a command with, by CUR_CMD (R201). -/
def answerErrors (code : BitVec 4) : List ErrCode :=
  if code = 0x7#4 ∨ code = 0xA#4 then [.crcMismatch, .transportError]
  else if code = 0x8#4 then [.crcMismatch, .transportError, .decodeError]
  else if code = 0x9#4 then [.retryLimitExceeded]
  else []

end Sys2Proof.Machine

namespace Sys2Proof

open Sys2Proof.Machine

/-- The command codes of R70 and R71 as instructions. -/
def Instr.isCommand (i : Instr) : Bool := (encode i).1 == .cmd4

/-- The wire-frame rows. -/
def Instr.isFrame (i : Instr) : Bool :=
  (encode i).1 == .fixed || (encode i).1 == .var || (encode i).1 == .respRead || (encode i).1 == .anyFrame

/-- The DataType rows. -/
def Instr.isDtype (i : Instr) : Bool := (encode i).1 == .opCtrl

/-- The errors each command may end with (R201). -/
def Instr.errors : Instr → List ErrCode
  | .appt => [.preconditionError]
  | .valt => [.crcMismatch]
  | .strp => [.decodeError, .preconditionError]
  | .decd => [.decodeError, .preconditionError]
  | .req => [.preconditionError]
  | .rdhr => [.preconditionError]
  | .wrsr => [.retryLimitExceeded]
  | .reserved0 | .reservedC | .reservedD | .reservedE | .reservedF => [.illegalCommand]
  | _ => []

end Sys2Proof
end

