-- ==== Sys2Proof/Certificates/Slice0/Obligations.lean ====
section
/-! DEFINITION. The statements for the provers.  Each docstring names the rule of spec/ it formalises. -/

open Sys2Proof Sys2Proof.Machine

/-! ### Reset -/

/-- R34, R231: every entry of the reset table.  That the trace of the reset state is empty is the model's choice (log entry
2). -/
def Obligations.ResetGivesTheTable : Prop :=
  State.reset.phase = .idle ∧ State.reset.st = .none ∧ State.reset.curCmd = 0 ∧
  State.reset.errCode.num = 0 ∧ State.reset.errTp = 0 ∧ State.reset.errCause.num = 0 ∧
  State.reset.rcState = .idle ∧ State.reset.remaining = 0 ∧ State.reset.attempts = 0 ∧ State.reset.rcN = 0 ∧
  State.reset.ctxSlave = 0 ∧ State.reset.ctxReg = 0 ∧ State.reset.ctxValue = 0 ∧
  State.reset.opSlave = 0 ∧ State.reset.opFunc = 0 ∧ State.reset.opF1 = 0 ∧ State.reset.opF2 = 0 ∧
  State.reset.opRetry = 0 ∧ State.reset.opCtrl.num = 0 ∧
  State.reset.cfgDefaultRetry = Config.defaultRetryCount ∧
  State.reset.cfgRespTimeout = Config.responseTimeoutDefault ∧
  State.reset.cfgQueueTimeout = Config.queueTimeoutDefault ∧
  State.reset.crcr = 0xFFFF#16 ∧ State.reset.crcx = 0 ∧ State.reset.txlen = 0 ∧ State.reset.txst = .empty ∧
  State.reset.rxlen = 0 ∧ State.reset.rxValid = false ∧ State.reset.payValid = false ∧ State.reset.payLen = 0 ∧
  State.reset.vallen = 0 ∧ State.reset.outCount = 0 ∧ State.reset.outKind = 0 ∧ State.reset.trace = []

/-- R230, R231: the reset input gives the reset state whatever the state before, AWAIT included, and emits nothing.  That
the rest of the script and the replies are kept is the model's choice (log entry 3). -/
def Obligations.ResetInputFromAnyState : Prop :=
  ∀ (s : State) (rest : List Input), s.inbox = .reset :: rest →
    ∃ t, step s = .next t ∧ t.block = State.reset.block ∧ t.trace = s.trace ∧ t.inbox = rest ∧ t.replies = s.replies

/-- R32 at reset. -/
def Obligations.ResetMeetsInvariant : Prop := State.reset.Inv ∧ State.reset.Linked

/-! ### Whole-machine rules -/

/-- R32: every step keeps the eight invariants, from every state that has them. -/
def Obligations.StepKeepsInvariant : Prop := ∀ s t : State, s.Inv → step s = .next t → t.Inv

/-- What a command in flight relies on beyond R32 is kept by every step (R23, R56, R152, R154, R156, R186). -/
def Obligations.StepKeepsCommandLinks : Prop := ∀ s t : State, s.Inv → s.Linked → step s = .next t → t.Linked

/-- From a state that meets R32, a step on an input the ports' contracts allow answers a next state: no fault, no refusal;
and with no input the block waits (R34, R170, R174). -/
def Obligations.InContractInputCompletes : Prop :=
  ∀ s : State, s.Inv →
    (s.inbox = [] → step s = .next s) ∧
    ∀ input rest, s.inbox = input :: rest → input.inContract = true → ∃ t, step s = .next t

/-- R174, R240: while PHASE = AWAIT only an answer of the transport or the reset changes the block; every other input
leaves every register and buffer as it was. -/
def Obligations.AwaitIsLeftOnlyByAnswerOrReset : Prop :=
  ∀ s t : State, s.phase = .await → step s = .next t →
    (∀ input rest, s.inbox = input :: rest → input.movesAwait = false) → t.block = s.block

/-- The command after a failed one does not see the failure: a command's whole result is the same whatever STATUS, CUR_CMD,
the error registers and the retry diagnostics held before it (R19, R196, R215). -/
def Obligations.FailuresAreScopedToTheirCommand : Prop :=
  ∀ (i : Instr) (s : State) (st : St) (code : BitVec 4) (e c : ErrCode) (tp : Byte) (rc : RcState) (r a n : Half),
    i.isCommand = true → s.phase = .idle →
    exec i { s with st := st, curCmd := code, errCode := e, errCause := c, errTp := tp, rcState := rc, remaining := r,
                    attempts := a, rcN := n } = exec i s

/-- No row but a DataType row writes an operand or configuration register or VALBUF (R12 to R18, R30: "no command writes
any of them"), and none consumes a further input. -/
def Obligations.CommandsKeepOperandsAndConfiguration : Prop :=
  ∀ (i : Instr) (s t : State), i.isDtype = false → exec i s = .next t →
    t.opSlave = s.opSlave ∧ t.opFunc = s.opFunc ∧ t.opF1 = s.opF1 ∧ t.opF2 = s.opF2 ∧ t.opRetry = s.opRetry ∧
    t.opCtrl = s.opCtrl ∧ t.cfgDefaultRetry = s.cfgDefaultRetry ∧ t.cfgRespTimeout = s.cfgRespTimeout ∧
    t.cfgQueueTimeout = s.cfgQueueTimeout ∧ t.mem.valbuf = s.mem.valbuf ∧ t.inbox = s.inbox ∧ t.replies = s.replies

/-- The frame of the wire-frame rows, read as arrivals at the transport port, which is the model's choice (log entry 4):
what R155, R156, R176, R177, R180, R187 and R189 leave unchanged.  From a state that meets R32 and the command
links: every byte of TXBUF and word of VALBUF is as before, with CUR_CMD, RC_N and the context registers; OUTBUF, OUT_KIND
and PAY_LEN change only under RDHR; RC_STATE, REMAINING and ATTEMPTS only under WRSR; and with PHASE = IDLE nothing changes
at all. -/
def Obligations.WireFrameRowsFrame : Prop :=
  ∀ (i : Instr) (s t : State), s.Inv → s.Linked → i.isFrame = true → exec i s = .next t →
    t.mem.txbuf = s.mem.txbuf ∧ t.mem.valbuf = s.mem.valbuf ∧ t.curCmd = s.curCmd ∧ t.rcN = s.rcN ∧
    t.ctxSlave = s.ctxSlave ∧ t.ctxReg = s.ctxReg ∧ t.ctxValue = s.ctxValue ∧
    (s.curCmd ≠ 0x8#4 → t.mem.outbuf = s.mem.outbuf ∧ t.outKind = s.outKind ∧ t.payLen = s.payLen) ∧
    (s.curCmd ≠ 0x9#4 → t.rcState = s.rcState ∧ t.remaining = s.remaining ∧ t.attempts = s.attempts) ∧
    (s.phase = .idle → t = s)

/-! ### Encodings and the step -/

/-- Decoding the encoding of any well-formed instruction gives it back, with every operand.  That a command code is held in one
byte and an OP_CTRL value in two, low byte first, is the model's choice (log entry 20). -/
def Obligations.DecodeEncodeRoundTrip : Prop :=
  ∀ i : Instr, i.wellFormed = true → decode (encode i).1 (encode i).2 = .ok i

/-- Every word the decoder accepts is the encoding of the well-formed instruction it reads; for an OP_CTRL value, whose bits
15:5 are dropped (R16), it is so when those are zero.  The bytes of a command code and of an OP_CTRL value, low byte first, are
the model's choice (log entry 20). -/
def Obligations.EncodeDecodeRoundTrip : Prop :=
  ∀ (fmt : Format) (w : List Byte) (i : Instr), decode fmt w = .ok i →
    i.wellFormed = true ∧
    (fmt ≠ .opCtrl ∨ (∃ lo : Byte, w = [lo, 0] ∧ lo.toNat < 32) → encode i = (fmt, w))

/-- R70, R71: the sixteen command codes; R191: the two pseudo-operations; and one written-out word each of the other
formats (R61, R63, R64, R66, R72), from the tables of 30_encoding.md and the vectors X2, X3, V30, V31, V60.
That a code is held in one byte and an OP_CTRL value in two, low byte first, is the model's choice (log entry 20). -/
def Obligations.TableWordsDecode : Prop :=
  (List.range 16).map (fun c => decode .cmd4 [BitVec.ofNat 8 c]) =
    [.ok .reserved0, .ok .bldf, .ok .bldv, .ok .appt, .ok .valt, .ok .strp, .ok .decd, .ok .req, .ok .rdhr, .ok .wrsr,
     .ok .wrmr, .ok .crcg, .ok .reservedC, .ok .reservedD, .ok .reservedE, .ok .reservedF] ∧
  decode .pseudo [0b0001#8, 0b0011#8] = .ok .mkfixed ∧ decode .pseudo [0b0010#8, 0b0011#8] = .ok .mkvar ∧
  decode .fixed [0x05#8, 0x03#8, 0x00#8, 0x0A#8, 0x00#8, 0x02#8, 0xE5#8, 0x8D#8] = .ok (.frameReadHolding 5 10 2) ∧
  decode .var [0x01#8, 0x10#8, 0x00#8, 0x00#8, 0x00#8, 0x02#8, 0x04#8, 0x00#8, 0x01#8, 0x00#8, 0x02#8, 0x23#8, 0xAE#8]
    = .ok (.frameWriteMultiple 1 0 [1, 2]) ∧
  decode .respRead [0x05#8, 0x03#8, 0x04#8, 0x00#8, 0x0A#8, 0x00#8, 0x14#8, 0x9F#8, 0xFE#8]
    = .ok (.frameRespRead 5 3 4 [0x00, 0x0A, 0x00, 0x14]) ∧
  decode .respRead [0x05#8, 0x03#8, 0x04#8, 0x00#8, 0x0A#8, 0x00#8, 0x15#8, 0x9F#8, 0xFE#8] = .error .badTrailer ∧
  decode .anyFrame [0xFF#8, 0xFF#8] = .ok (.trailer [] 0xFF 0xFF) ∧
  decode .opCtrl [0b00010000#8, 0x00#8] = .ok (.dtypeF32 false false) ∧
  decode .opCtrl [0b00011110#8, 0x00#8] = .ok (.dtypeReserved7 false true)

/-- A step on a word of the opcode table runs the instruction it decodes to, on the state with that input consumed.  The
script, its order and its consumption are the model's (log entry 2). -/
def Obligations.StepRunsDecodedInstruction : Prop :=
  ∀ (s : State) (fmt : Format) (w : List Byte) (rest : List Input) (i : Instr),
    s.inbox = .word fmt w :: rest → decode fmt w = .ok i → step s = exec i { s with inbox := rest }

/-- A frame row acts as the transport's answer with the frame's bytes, on the block's rules for any `tp_result` (log
entry 4). -/
def Obligations.FrameRowsAreTransportAnswers : Prop :=
  ∀ (s : State) (i : Instr), i.isFrame = true → exec i s = tpResult (.ok (encode i).2) s

/-! ### The integrity code -/

/-- R112: the bit step, bit by bit, and the worked byte step. -/
def Obligations.CrcBitStepByBits : Prop :=
  (∀ (c : Half) (k : Nat), k < 16 →
    (crcBit c).getLsbD k =
      if k = 15 then c.getLsbD 0
      else if k = 13 then (c.getLsbD 14 ^^ c.getLsbD 0)
      else if k = 0 then (c.getLsbD 1 ^^ c.getLsbD 0)
      else c.getLsbD (k + 1)) ∧
  (∀ (c : Half) (b : Byte), crcByte c b = crcBits 8 (c ^^^ b.setWidth 16)) ∧
  0xFFFF#16 ^^^ (0x01#8).setWidth 16 = 0xFFFE#16 ∧
  (List.range 9).map (fun n => crcBits n 0xFFFE#16) =
    [0xFFFE#16, 0x7FFF#16, 0x9FFE#16, 0x4FFF#16, 0x87FE#16, 0x43FF#16, 0x81FE#16, 0x40FF#16, 0x807E#16] ∧
  crc16 [0x01#8] = 0x807E#16

/-- R113: the empty sequence, streaming, the zero residue and its use as the validity test, the affine law, the check
value. -/
def Obligations.CrcAlgebra : Prop :=
  crc16 [] = 0xFFFF#16 ∧
  (∀ s t : List Byte, crc16 (s ++ t) = t.foldl crcByte (crc16 s)) ∧
  (∀ s : List Byte, crc16 (s ++ le16 (crc16 s)) = 0#16) ∧
  (∀ f : List Byte, 2 ≤ f.length → (validate f = .ok ↔ crc16 f = 0#16)) ∧
  (∀ s e : List Byte, s.length = e.length →
    crc16 (List.zipWith (fun a b => a ^^^ b) s e) = crc16 s ^^^ crc16 e ^^^ crc16 (List.replicate s.length 0#8)) ∧
  crc16 [0x31#8, 0x32#8, 0x33#8, 0x34#8, 0x35#8, 0x36#8, 0x37#8, 0x38#8, 0x39#8] = 0x4B37#16

/-- R120: a frame with its trailer validates, and replacing any single byte of it, trailer included, by any different value
makes it fail. -/
def Obligations.SingleByteChangeIsDetected : Prop :=
  ∀ s : List Byte,
    validate (appendTrailer s) = .ok ∧
    ∀ (i : Nat) (b d : Byte), (appendTrailer s)[i]? = some b → d ≠ 0#8 →
      validate ((appendTrailer s).set i (b ^^^ d)) = .crcMismatch

/-- R119: frames of no byte and one byte fail, and a frame of two bytes is valid exactly when it is FF FF. -/
def Obligations.ShortFramesValidation : Prop :=
  validate [] = .crcMismatch ∧ (∀ a : Byte, validate [a] = .crcMismatch) ∧
  ∀ a b : Byte, validate [a, b] = .ok ↔ a = 0xFF#8 ∧ b = 0xFF#8

/-- R114: CRCG's result with its frame, in every TXST; and its values on an empty and on a sealed frame. -/
def Obligations.CrcgComputesTheCode : Prop :=
  ∀ s : State, s.phase = .idle →
    exec .crcg s = .next { s.accept 0xB#4 with crcr := crc16 s.mem.txbuf, st := .ok, trace := s.trace ++ [.doneOk] } ∧
    (s.txlen = 0 → crc16 s.mem.txbuf = 0xFFFF#16) ∧
    (s.Inv → s.txst = .sealed → crc16 s.mem.txbuf = 0#16)

/-- R115, R116: APPT on an OPEN frame, with its frame; on any other TXST it is refused. -/
def Obligations.ApptSealsAnOpenFrame : Prop :=
  ∀ s : State, s.phase = .idle →
    (s.txst = .open →
      exec .appt s = .next { s.accept 0x3#4 with
        mem := { s.mem with txbuf := s.mem.txbuf ++ [lo8 (crc16 s.mem.txbuf), hi8 (crc16 s.mem.txbuf)] }
        txst := .sealed, crcr := crc16 s.mem.txbuf, st := .ok, trace := s.trace ++ [.doneOk] }) ∧
    (s.txst ≠ .open →
      exec .appt s = .next { s.accept 0x3#4 with
        errCode := .preconditionError, st := .err, trace := s.trace ++ [.doneErr] })

/-- R117, R118: VALT's three cases, with their frame. -/
def Obligations.ValtJudgesTheReceivedFrame : Prop :=
  ∀ s : State, s.phase = .idle →
    (s.rxlen < 2 →
      exec .valt s = .next { s.accept 0x4#4 with
        rxValid := false, payValid := false, errCode := .crcMismatch, st := .err, trace := s.trace ++ [.doneErr] }) ∧
    (2 ≤ s.rxlen → crc16 (s.mem.rxbuf.take (s.rxlen - 2)) = u16le s.mem.rxbuf (s.rxlen - 2) →
      exec .valt s = .next { s.accept 0x4#4 with
        crcr := crc16 (s.mem.rxbuf.take (s.rxlen - 2)), crcx := u16le s.mem.rxbuf (s.rxlen - 2), rxValid := true
        st := .ok, trace := s.trace ++ [.doneOk] }) ∧
    (2 ≤ s.rxlen → crc16 (s.mem.rxbuf.take (s.rxlen - 2)) ≠ u16le s.mem.rxbuf (s.rxlen - 2) →
      exec .valt s = .next { s.accept 0x4#4 with
        crcr := crc16 (s.mem.rxbuf.take (s.rxlen - 2)), crcx := u16le s.mem.rxbuf (s.rxlen - 2), rxValid := false
        payValid := false, errCode := .crcMismatch, st := .err, trace := s.trace ++ [.doneErr] })

/-- R121: VALT and CRCG issued again on an unchanged buffer leave the block exactly as the first did; a second APPT is
refused. -/
def Obligations.ValidationIsIdempotent : Prop :=
  ∀ s t u : State, s.phase = .idle →
    (exec .valt s = .next t → exec .valt t = .next u → u.block = t.block) ∧
    (exec .crcg s = .next t → exec .crcg t = .next u → u.block = t.block) ∧
    (s.txst = .open → exec .appt s = .next t → exec .appt t = .next u → u.errCode = .preconditionError)

/-! ### Request packet assembly -/

/-- R101: BLDF's result with its frame, whatever TXST was. -/
def Obligations.BldfBuildsTheFixedHeader : Prop :=
  ∀ s : State, s.phase = .idle →
    exec .bldf s = .next { s.accept 0x1#4 with
      mem := { s.mem with txbuf := [s.opSlave, s.opFunc, hi8 s.opF1, lo8 s.opF1, hi8 s.opF2, lo8 s.opF2] }
      txst := .open, st := .ok, trace := s.trace ++ [.doneOk] }

/-- R100, R103: BLDV's result with its frame, and the length of what it builds. -/
def Obligations.BldvBuildsTheVariableHeader : Prop :=
  ∀ s : State, s.phase = .idle →
    ∃ h : List Byte,
      exec .bldv s = .next { s.accept 0x2#4 with
        mem := { s.mem with txbuf := h }, txst := .open, st := .ok, trace := s.trace ++ [.doneOk] } ∧
      h = [s.opSlave, s.opFunc, hi8 s.opF1, lo8 s.opF1, hi8 (BitVec.ofNat 16 s.vallen), lo8 (BitVec.ofNat 16 s.vallen),
            BitVec.ofNat 8 (2 * s.vallen)] ++ (s.mem.valbuf.map fun v => [hi8 v, lo8 v]).flatten ∧
      h.length = 7 + 2 * s.vallen

/-- R61, R63: the byte offsets of a FIXED frame and of a VAR frame of up to 127 values. -/
def Obligations.WireFrameLayouts : Prop :=
  (∀ (a f : Byte) (p q : Half),
    (wireFixed a f p q).length = 8 ∧
    (wireFixed a f p q)[0]? = some a ∧ (wireFixed a f p q)[1]? = some f ∧
    (wireFixed a f p q)[2]? = some (p.extractLsb' 8 8) ∧ (wireFixed a f p q)[3]? = some (p.extractLsb' 0 8) ∧
    (wireFixed a f p q)[4]? = some (q.extractLsb' 8 8) ∧ (wireFixed a f p q)[5]? = some (q.extractLsb' 0 8) ∧
    (wireFixed a f p q)[6]? = some ((crc16 ((wireFixed a f p q).take 6)).extractLsb' 0 8) ∧
    (wireFixed a f p q)[7]? = some ((crc16 ((wireFixed a f p q).take 6)).extractLsb' 8 8)) ∧
  ∀ (a f : Byte) (s : Half) (vals : List Half) (n : Nat), vals.length = n → n ≤ 127 →
    (wireVar a f s vals).length = 9 + 2 * n ∧
    (wireVar a f s vals)[0]? = some a ∧ (wireVar a f s vals)[1]? = some f ∧
    (wireVar a f s vals)[2]? = some (s.extractLsb' 8 8) ∧ (wireVar a f s vals)[3]? = some (s.extractLsb' 0 8) ∧
    (wireVar a f s vals)[4]? = some 0#8 ∧ (wireVar a f s vals)[5]? = some (BitVec.ofNat 8 n) ∧
    ((wireVar a f s vals)[6]?).map BitVec.toNat = some (2 * n) ∧
    (∀ i v, vals[i]? = some v →
      (wireVar a f s vals)[7 + 2 * i]? = some (v.extractLsb' 8 8) ∧
      (wireVar a f s vals)[8 + 2 * i]? = some (v.extractLsb' 0 8)) ∧
    (wireVar a f s vals)[7 + 2 * n]? = some ((crc16 ((wireVar a f s vals).take (7 + 2 * n))).extractLsb' 0 8) ∧
    (wireVar a f s vals)[8 + 2 * n]? = some ((crc16 ((wireVar a f s vals).take (7 + 2 * n))).extractLsb' 8 8)

/-- MKFIXED and MKVAR as the sequences of R191: while idle they leave the sealed frame of their builder, with their frame;
while PHASE = AWAIT both commands of the sequence are rejected.  That the sequence is one step is the model's choice (log
entry 6). -/
def Obligations.PseudoOperationsSealTheirFrame : Prop :=
  ∀ s : State,
    (s.phase = .await →
      exec .mkfixed s = .next { s with trace := s.trace ++ [.cmdReject, .cmdReject] } ∧
      exec .mkvar s = .next { s with trace := s.trace ++ [.cmdReject, .cmdReject] }) ∧
    (s.phase = .idle →
    exec .mkfixed s = .next { s.accept 0x3#4 with
      mem := { s.mem with txbuf := wireFixed s.opSlave s.opFunc s.opF1 s.opF2 }, txst := .sealed
      crcr := crc16 (buildFixed s.opSlave s.opFunc s.opF1 s.opF2), st := .ok
      trace := s.trace ++ [.doneOk, .doneOk] } ∧
    exec .mkvar s = .next { s.accept 0x3#4 with
      mem := { s.mem with txbuf := wireVar s.opSlave s.opFunc s.opF1 s.mem.valbuf }, txst := .sealed
      crcr := crc16 (buildVar s.opSlave s.opFunc s.opF1 s.mem.valbuf), st := .ok
      trace := s.trace ++ [.doneOk, .doneOk] })

/-! ### The response decoder -/

/-- R131: the strip drops the three header bytes and the two trailer bytes and keeps what lies between, in order. -/
def Obligations.StripKeepsThePayload : Prop :=
  (∀ f : List Byte, 5 ≤ f.length →
    (strip f).length = f.length - 5 ∧ ∀ i, i < f.length - 5 → (strip f)[i]? = f[3 + i]?) ∧
  ∀ (a f n : Byte) (p : List Byte), strip (wireRespRead a f n p) = p

/-- R132: STRP's three cases, with their frame. -/
def Obligations.StrpOpensThePayloadWindow : Prop :=
  ∀ s : State, s.phase = .idle →
    (s.rxValid = false →
      exec .strp s = .next { s.accept 0x5#4 with
        errCode := .preconditionError, st := .err, trace := s.trace ++ [.doneErr] }) ∧
    (s.rxValid = true → s.rxlen < 5 →
      exec .strp s = .next { s.accept 0x5#4 with
        payValid := false, errCode := .decodeError, st := .err, trace := s.trace ++ [.doneErr] }) ∧
    (s.rxValid = true → 5 ≤ s.rxlen →
      exec .strp s = .next { s.accept 0x5#4 with
        payLen := BitVec.ofNat 16 (s.rxlen - 5), payValid := true, st := .ok, trace := s.trace ++ [.doneOk] })

/-- R139, R141: DECD's cases in their order of report, with their frame; the payload is the window RXBUF[3 : 3 + PAY_LEN) of
R29, and each tag has R72's number and width. -/
def Obligations.DecdDecodesThePayload : Prop :=
  ∀ s : State, s.phase = .idle →
    (s.payValid = false →
      exec .decd s = .next { s.accept 0x6#4 with
        errCode := .preconditionError, st := .err, trace := s.trace ++ [.doneErr] }) ∧
    (s.payValid = true → s.opCtrl.xform = true →
      exec .decd s = .next { s.accept 0x6#4 with
        mem := { s.mem with outbuf := ((s.mem.rxbuf.drop 3).take s.payLen.toNat).map fun b => b.setWidth 32 }, outKind := 0b1000#4
        st := .ok, trace := s.trace ++ [.doneOk] }) ∧
    (s.payValid = true → s.opCtrl.xform = false → 5 < s.opCtrl.dtype.toNat →
      exec .decd s = .next { s.accept 0x6#4 with
        errCode := .preconditionError, st := .err, trace := s.trace ++ [.doneErr] }) ∧
    (∀ (d : DataType) (tag : BitVec 3) (width : Nat),
      (d, tag, width) ∈ [(DataType.u16, 0#3, 2), (.s16, 1#3, 2), (.u32, 2#3, 4), (.s32, 3#3, 4), (.f32, 4#3, 4), (.raw, 5#3, 1)] →
      s.payValid = true → s.opCtrl.xform = false → s.opCtrl.dtype = tag →
      (s.payLen.toNat % width ≠ 0 →
        exec .decd s = .next { s.accept 0x6#4 with
          errCode := .decodeError, st := .err, trace := s.trace ++ [.doneErr] }) ∧
      (s.payLen.toNat % width = 0 →
        exec .decd s = .next { s.accept 0x6#4 with
          mem := { s.mem with outbuf := d.elements ((s.mem.rxbuf.drop 3).take s.payLen.toNat) }, outKind := tag.setWidth 4
          st := .ok, trace := s.trace ++ [.doneOk] }))

/-- R134 to R138, R140: how many elements a payload gives and what each is, per tag, with its caller-facing integer (none for
F32).  The caller-facing value of a RAW element is the model's choice (log entry 19). -/
def Obligations.ElementsOfEveryDataType : Prop :=
  ∀ (p : List Byte) (d : DataType), p.length % d.width = 0 →
    (d.elements p).length = p.length / d.width ∧
    ∀ (i : Nat) (w : Word), (d.elements p)[i]? = some w →
      let b := fun k => (p.getD k 0#8).toNat
      match d with
      | .u16 => w.toNat = b (2 * i) * 256 + b (2 * i + 1) ∧ d.callerValue w = some (w.toNat : Int)
      | .s16 =>
        w.toInt = ((b (2 * i) * 256 + b (2 * i + 1) : Nat) : Int) - (if 128 ≤ b (2 * i) then 65536 else 0) ∧
          d.callerValue w = some w.toInt
      | .u32 =>
        w.toNat = b (4 * i) * 2 ^ 24 + b (4 * i + 1) * 2 ^ 16 + b (4 * i + 2) * 2 ^ 8 + b (4 * i + 3) ∧
          d.callerValue w = some (w.toNat : Int)
      | .s32 =>
        w.toNat = b (4 * i) * 2 ^ 24 + b (4 * i + 1) * 2 ^ 16 + b (4 * i + 2) * 2 ^ 8 + b (4 * i + 3) ∧
          d.callerValue w = some w.toInt
      | .f32 => w.toNat = b (4 * i) * 2 ^ 24 + b (4 * i + 1) * 2 ^ 16 + b (4 * i + 2) * 2 ^ 8 + b (4 * i + 3)
      | .raw => w.toNat = b i ∧ d.callerValue w = some (w.toNat : Int)

/-! ### The orchestrator and the public operations -/

/-- R173: REQ on a SEALED frame, with its frame; on any other TXST nothing is submitted. -/
def Obligations.ReqSubmitsASealedFrame : Prop :=
  ∀ s : State, s.phase = .idle →
    (s.txst = .sealed →
      exec .req s = .next { s.accept 0x7#4 with phase := .await, trace := s.trace ++ [.tpSubmit s.mem.txbuf] }) ∧
    (s.txst ≠ .sealed →
      exec .req s = .next { s.accept 0x7#4 with
        errCode := .preconditionError, st := .err, trace := s.trace ++ [.doneErr] })

/-- R175: a transport failure ends REQ, RDHR and WRMR, with its frame. -/
def Obligations.TransportFailureEndsTheCommand : Prop :=
  ∀ (s : State) (e : Byte), s.phase = .await → s.curCmd = 0x7#4 ∨ s.curCmd = 0x8#4 ∨ s.curCmd = 0xA#4 →
    tpResult (.fail e) s = .next { s with
      txst := .spent, errTp := e, errCode := .transportError, st := .err, phase := .idle
      trace := s.trace ++ [.doneErr] }

/-- R176: the receive step's three cases, with their frame; its verdict is `validate` of the bytes. -/
def Obligations.ReceiveStoresThenJudges : Prop :=
  ∀ (s : State) (bytes : List Byte),
    (bytes.length < 2 →
      s.receive bytes = { s with mem := { s.mem with rxbuf := bytes }, rxValid := false, payValid := false } ∧
      validate bytes = .crcMismatch) ∧
    (2 ≤ bytes.length → crc16 (bytes.take (bytes.length - 2)) = u16le bytes (bytes.length - 2) →
      s.receive bytes = { s with
        mem := { s.mem with rxbuf := bytes }, rxValid := true, payValid := false
        crcr := crc16 (bytes.take (bytes.length - 2)), crcx := u16le bytes (bytes.length - 2) } ∧
      validate bytes = .ok) ∧
    (2 ≤ bytes.length → crc16 (bytes.take (bytes.length - 2)) ≠ u16le bytes (bytes.length - 2) →
      s.receive bytes = { s with
        mem := { s.mem with rxbuf := bytes }, rxValid := false, payValid := false
        crcr := crc16 (bytes.take (bytes.length - 2)), crcx := u16le bytes (bytes.length - 2) } ∧
      validate bytes = .crcMismatch)

/-- R177, R189: REQ and WRMR on an answer with a frame, with its frame. -/
def Obligations.ReqAndWrmrReturnTheResponse : Prop :=
  ∀ (s : State) (bytes : List Byte), s.phase = .await → s.curCmd = 0x7#4 ∨ s.curCmd = 0xA#4 → bytes.length ≤ 263 →
    (validate bytes = .ok →
      tpResult (.ok bytes) s = .next { s.receive bytes with
        txst := .spent, st := .ok, phase := .idle, trace := s.trace ++ [.doneOk] }) ∧
    (validate bytes = .crcMismatch →
      tpResult (.ok bytes) s = .next { s.receive bytes with
        txst := .spent, errCode := .crcMismatch, st := .err, phase := .idle, trace := s.trace ++ [.doneErr] })

/-- R180: a `tp_result` within the port's contract that arrives while PHASE = IDLE is dropped; R181: one of more than
FRAME_MAX bytes is refused.  That the refusal comes before the drop is the model's choice (log entry 10). -/
def Obligations.UnmatchedAndOversizeAnswers : Prop :=
  ∀ (s : State) (r : TpResult),
    (r.fits = true → s.phase = .idle → tpResult r s = .next s) ∧
    ∀ bytes, 263 < bytes.length → tpResult (.ok bytes) s = .refused .oversizeResponse

/-- R186: RDHR's acceptance, with its frame; a reserved tag with XFORM = 0 is refused before any traffic. -/
def Obligations.RdhrSubmitsAReadRequest : Prop :=
  ∀ s : State, s.phase = .idle →
    (s.opCtrl.xform = true ∨ s.opCtrl.dtype.toNat ≤ 5 →
      exec .rdhr s = .next { s.accept 0x8#4 with
        mem := { s.mem with txbuf := wireFixed s.opSlave 0x03#8 s.opF1 s.opF2 }, txst := .sealed
        crcr := crc16 (buildFixed s.opSlave 0x03#8 s.opF1 s.opF2), phase := .await
        trace := s.trace ++ [.tpSubmit (wireFixed s.opSlave 0x03#8 s.opF1 s.opF2)] }) ∧
    (s.opCtrl.xform = false → 5 < s.opCtrl.dtype.toNat →
      exec .rdhr s = .next { s.accept 0x8#4 with
        errCode := .preconditionError, st := .err, trace := s.trace ++ [.doneErr] })

/-- R187: RDHR's completion, case by case in the order of R214, with its frame: a bad trailer, a short frame, the bypass, a
length mismatch, a decode; each tag has R72's number and width. -/
def Obligations.RdhrCompletion : Prop :=
  ∀ (s : State) (bytes : List Byte), s.phase = .await → s.curCmd = 0x8#4 → bytes.length ≤ 263 →
    (validate bytes = .crcMismatch →
      tpResult (.ok bytes) s = .next { s.receive bytes with
        txst := .spent, errCode := .crcMismatch, st := .err, phase := .idle, trace := s.trace ++ [.doneErr] }) ∧
    (validate bytes = .ok → bytes.length < 5 →
      tpResult (.ok bytes) s = .next { s.receive bytes with
        txst := .spent, errCode := .decodeError, st := .err, phase := .idle, trace := s.trace ++ [.doneErr] }) ∧
    (validate bytes = .ok → 5 ≤ bytes.length → s.opCtrl.xform = true →
      tpResult (.ok bytes) s = .next { s.receive bytes with
        txst := .spent, payLen := BitVec.ofNat 16 (bytes.length - 5), payValid := true
        mem := { s.mem with rxbuf := bytes, outbuf := (strip bytes).map fun b => b.setWidth 32 }, outKind := 0b1000#4
        st := .ok, phase := .idle, trace := s.trace ++ [.doneOk] }) ∧
    ∀ (d : DataType) (tag : BitVec 3) (width : Nat),
      (d, tag, width) ∈ [(DataType.u16, 0#3, 2), (.s16, 1#3, 2), (.u32, 2#3, 4), (.s32, 3#3, 4), (.f32, 4#3, 4), (.raw, 5#3, 1)] →
      validate bytes = .ok → 5 ≤ bytes.length → s.opCtrl.xform = false → s.opCtrl.dtype = tag →
      ((bytes.length - 5) % width ≠ 0 →
        tpResult (.ok bytes) s = .next { s.receive bytes with
          txst := .spent, payLen := BitVec.ofNat 16 (bytes.length - 5), payValid := true
          errCode := .decodeError, st := .err, phase := .idle, trace := s.trace ++ [.doneErr] }) ∧
      ((bytes.length - 5) % width = 0 →
        tpResult (.ok bytes) s = .next { s.receive bytes with
          txst := .spent, payLen := BitVec.ofNat 16 (bytes.length - 5), payValid := true
          mem := { s.mem with rxbuf := bytes, outbuf := d.elements (strip bytes) }, outKind := tag.setWidth 4
          st := .ok, phase := .idle, trace := s.trace ++ [.doneOk] })

/-- R188: WRMR's acceptance, with its frame: no failing path. -/
def Obligations.WrmrSubmitsAWriteRequest : Prop :=
  ∀ s : State, s.phase = .idle →
    exec .wrmr s = .next { s.accept 0xA#4 with
      mem := { s.mem with txbuf := wireVar s.opSlave 0x10#8 s.opF1 s.mem.valbuf }, txst := .sealed
      crcr := crc16 (buildVar s.opSlave 0x10#8 s.opF1 s.mem.valbuf), phase := .await
      trace := s.trace ++ [.tpSubmit (wireVar s.opSlave 0x10#8 s.opF1 s.mem.valbuf)] }

/-- R191: given the same answer, a successful RDHR leaves what the sequence BLDF, APPT, REQ, STRP, DECD leaves with OP_FUNC
= 0x03; a successful WRMR what BLDV, APPT, REQ leave with 0x10; and a WRSR that succeeds at its first attempt what BLDF,
APPT, REQ leave with 0x06.  No command of a sequence fails. -/
def Obligations.PublicOperationsEqualTheirPrimitives : Prop :=
  ∀ (s a b : State) (bytes : List Byte), s.phase = .idle → tpResult (.ok bytes) a = .next b → b.st = .ok →
    (exec .rdhr s = .next a →
      ∃ p1 p2 p3 p4 p5 p6, exec .bldf (regWrite 0x01 0x03 s) = .next p1 ∧ exec .appt p1 = .next p2 ∧
        exec .req p2 = .next p3 ∧ tpResult (.ok bytes) p3 = .next p4 ∧ exec .strp p4 = .next p5 ∧
        exec .decd p5 = .next p6 ∧ p6.st = .ok ∧ p6.SameResult b) ∧
    (exec .wrmr s = .next a →
      ∃ p1 p2 p3 p4, exec .bldv (regWrite 0x01 0x10 s) = .next p1 ∧ exec .appt p1 = .next p2 ∧
        exec .req p2 = .next p3 ∧ tpResult (.ok bytes) p3 = .next p4 ∧ p4.st = .ok ∧ p4.SameResult b) ∧
    (exec .wrsr s = .next a →
      ∃ p1 p2 p3 p4, exec .bldf (regWrite 0x01 0x06 s) = .next p1 ∧ exec .appt p1 = .next p2 ∧
        exec .req p2 = .next p3 ∧ tpResult (.ok bytes) p3 = .next p4 ∧ p4.st = .ok ∧ p4.SameResult b)

/-- The frame a public operation submits is the table's frame of its function code (R62, R67, R154, R186, R188). -/
def Obligations.SubmittedFramesAreTableFrames : Prop :=
  ∀ s : State, s.phase = .idle →
    (∀ t, exec .rdhr s = .next t → s.tagUsable = true →
      t.trace = s.trace ++ [.tpSubmit (encode (.frameReadHolding s.opSlave s.opF1 s.opF2)).2]) ∧
    (∀ t, exec .wrmr s = .next t →
      t.trace = s.trace ++ [.tpSubmit (encode (.frameWriteMultiple s.opSlave s.opF1 s.mem.valbuf)).2]) ∧
    (∀ t, exec .wrsr s = .next t → 0 < s.retryCount.toInt →
      t.trace = s.trace ++ [.tpSubmit (encode (.frameWriteSingle s.opSlave s.opF1 s.opF2)).2])

/-! ### The retry controller -/

/-- R152, R153, R154: WRSR's acceptance with a positive count, with its frame.  The count is OP_RETRY when RETRY_EN is 1 and
CFG_DEFAULT_RETRY otherwise. -/
def Obligations.WrsrStartsItsFirstAttempt : Prop :=
  ∀ (s : State) (n : Half), s.phase = .idle → n = (if s.opCtrl.retryEn then s.opRetry else s.cfgDefaultRetry) →
    0 < n.toInt →
    exec .wrsr s = .next { s.accept 0x9#4 with
      rcN := n, remaining := n, attempts := 1, ctxSlave := s.opSlave, ctxReg := s.opF1, ctxValue := s.opF2
      rcState := .attempting
      mem := { s.mem with txbuf := wireFixed s.opSlave 0x06#8 s.opF1 s.opF2 }, txst := .sealed
      crcr := crc16 (buildFixed s.opSlave 0x06#8 s.opF1 s.opF2), phase := .await
      trace := s.trace ++ [.tpSubmit (wireFixed s.opSlave 0x06#8 s.opF1 s.opF2)] }

/-- R161: a count of zero or less ends at once with RetryLimitExceeded, with its frame: no frame built, no submit, no
log. -/
def Obligations.WrsrWithNoBudgetEndsAtOnce : Prop :=
  ∀ (s : State) (n : Half), s.phase = .idle → n = (if s.opCtrl.retryEn then s.opRetry else s.cfgDefaultRetry) →
    n.toInt ≤ 0 →
    exec .wrsr s = .next { s.accept 0x9#4 with
      rcN := n, remaining := n, ctxSlave := s.opSlave, ctxReg := s.opF1, ctxValue := s.opF2
      rcState := .exhausted, errCode := .retryLimitExceeded, st := .err, trace := s.trace ++ [.doneErr] }

/-- R155: the answer that ends WRSR with success, with its frame. -/
def Obligations.WrsrSucceedsOnAValidAnswer : Prop :=
  ∀ (s : State) (bytes : List Byte), s.phase = .await → s.curCmd = 0x9#4 → bytes.length ≤ 263 →
    validate bytes = .ok →
    tpResult (.ok bytes) s = .next { s.receive bytes with
      rcState := .succeeded, txst := .spent, errTp := 0, errCause := .none, st := .ok, phase := .idle
      trace := s.trace ++ [.doneOk] }

/-- R156, R158, R159, R160: a failed attempt, by a transport failure or by a frame that fails validation (`u` is the state
with that frame received): the record first, then the next submit of the same bytes while the decremented budget is
positive, else RetryLimitExceeded; with their frame.  From a state in which an attempt was started. -/
def Obligations.WrsrRetriesOrExhausts : Prop :=
  ∀ (s u : State) (r : TpResult) (cause : ErrCode) (tp : Byte), s.phase = .await → s.curCmd = 0x9#4 →
    1 ≤ s.attempts.toNat →
    (r = .fail tp ∧ cause = .transportError ∧ u = s) ∨
      (∃ bytes, r = .ok bytes ∧ bytes.length ≤ 263 ∧ validate bytes = .crcMismatch ∧ cause = .crcMismatch ∧ tp = 0 ∧
        u = s.receive bytes) →
    (0 < (s.remaining - 1).toInt →
      tpResult r s = .next { u with
        errCause := cause, errTp := tp, remaining := s.remaining - 1, attempts := s.attempts + 1
        trace := s.trace ++
          [.log { slave := s.ctxSlave, register := s.ctxReg, value := s.ctxValue, k := s.attempts, n := s.rcN,
                  cause := cause, tp := tp },
           .tpSubmit s.mem.txbuf] }) ∧
    ((s.remaining - 1).toInt ≤ 0 →
      tpResult r s = .next { u with
        errCause := cause, errTp := tp, remaining := s.remaining - 1, rcState := .exhausted, txst := .spent
        errCode := .retryLimitExceeded, st := .err, phase := .idle
        trace := s.trace ++
          [.log { slave := s.ctxSlave, register := s.ctxReg, value := s.ctxValue, k := s.attempts, n := s.rcN,
                  cause := cause, tp := tp },
           .doneErr] })

/-- R157, retry exhaustion: with a count of N and a transport whose every answer is a failure, by a failure code or by a frame
that does not validate, in any mix, WRSR makes exactly max(N, 0) submits, emits max(N, 0) log records and ends Exhausted with
RetryLimitExceeded. -/
def Obligations.AlwaysFailingTransportGetsExactlyNAttempts : Prop :=
  ∀ (s : State) (failures : List TpResult), s.phase = .idle → failures.length = s.retryCount.toInt.toNat →
    (∀ r ∈ failures, r.fits = true ∧ ∀ f, r = .ok f → validate f = .crcMismatch) →
    s.inbox = .word .cmd4 [0x09#8] :: failures.map .tpResult →
    ∃ t events, Sys2Proof.core.run (failures.length + 1) s = .next t ∧ t.trace = s.trace ++ events ∧
      submitCount events = failures.length ∧ logCount events = failures.length ∧ doneCount events = 1 ∧
      t.phase = .idle ∧ t.rcState = .exhausted ∧ t.st = .err ∧ t.errCode = .retryLimitExceeded ∧
      t.attempts.toNat = failures.length

/-- R157, retry success path: if the first answer that is a success is number m and m is at most the count, WRSR ends
Succeeded after exactly m submits, with a log record for each of the m - 1 failures. -/
def Obligations.FirstSuccessEndsTheRetries : Prop :=
  ∀ (s : State) (failures : List TpResult) (bytes : List Byte), s.phase = .idle →
    (failures.length : Int) < s.retryCount.toInt →
    (∀ r ∈ failures, r.fits = true ∧ ∀ f, r = .ok f → validate f = .crcMismatch) →
    bytes.length ≤ 263 → validate bytes = .ok →
    s.inbox = .word .cmd4 [0x09#8] :: (failures.map .tpResult ++ [.tpResult (.ok bytes)]) →
    ∃ t events, Sys2Proof.core.run (failures.length + 2) s = .next t ∧ t.trace = s.trace ++ events ∧
      submitCount events = failures.length + 1 ∧ logCount events = failures.length ∧ doneCount events = 1 ∧
      t.phase = .idle ∧ t.rcState = .succeeded ∧ t.st = .ok ∧ t.mem.rxbuf = bytes ∧
      t.attempts.toNat = failures.length + 1

/-- R158: in every state that meets R32 with WRSR attempting, K = ATTEMPTS is RC_N + 1 - REMAINING, from 1 to RC_N. -/
def Obligations.AttemptMarkerArithmetic : Prop :=
  ∀ (s : State) (cause : ErrCode) (tp : Byte), s.Inv → s.RetryLink → s.phase = .await → s.curCmd = 0x9#4 →
    ((s.logRecord cause tp).k.toNat : Int) = s.rcN.toInt + 1 - s.remaining.toInt ∧
    (s.logRecord cause tp).n = s.rcN ∧ 1 ≤ (s.logRecord cause tp).k.toNat ∧
    ((s.logRecord cause tp).k.toNat : Int) ≤ s.rcN.toInt

/-! ### Errors, events and the host's transactions -/

/-- R201: the errors each command can end with, at its acceptance and at the transport's answer. -/
def Obligations.CommandsRaiseOnlyTheirErrors : Prop :=
  (∀ (i : Instr) (s t : State), i.isCommand = true → s.phase = .idle → exec i s = .next t → t.errCode ≠ .none →
    t.errCode ∈ i.errors) ∧
  ∀ (s t : State) (r : TpResult), s.Inv → s.Linked → s.phase = .await → tpResult r s = .next t → t.errCode ≠ .none →
    t.errCode ∈ answerErrors s.curCmd

/-- R205: a command that ends with PreconditionError or IllegalCommand changes only CUR_CMD, STATUS, ERR_CODE and the
registers the prologue clears: no buffer, no length, no flag. -/
def Obligations.RefusedCommandsChangeNothingElse : Prop :=
  ∀ (i : Instr) (s t : State), i.isCommand = true → s.phase = .idle → exec i s = .next t →
    t.errCode = .preconditionError ∨ t.errCode = .illegalCommand →
    t = { s.accept t.curCmd with errCode := t.errCode, st := .err, trace := s.trace ++ [.doneErr] }

/-- R71, R211: a reserved code issued while idle ends at once with IllegalCommand, with its frame. -/
def Obligations.ReservedCodesRaiseIllegalCommand : Prop :=
  ∀ (s : State) (i : Instr) (code : BitVec 4), s.phase = .idle →
    (i, code) ∈ [(Instr.reserved0, 0x0#4), (.reservedC, 0xC#4), (.reservedD, 0xD#4), (.reservedE, 0xE#4),
      (.reservedF, 0xF#4)] →
    exec i s = .next { s.accept code with errCode := .illegalCommand, st := .err, trace := s.trace ++ [.doneErr] }

/-- R196: a command issued while PHASE = AWAIT emits `cmd_reject` and changes nothing; a command accepted while idle starts
from the prologue's registers. -/
def Obligations.CommandsAreRejectedWhileAwaiting : Prop :=
  (∀ (i : Instr) (s : State), i.isCommand = true → s.phase = .await →
    exec i s = .next { s with trace := s.trace ++ [.cmdReject] }) ∧
  ∀ (code : BitVec 4) (s : State),
    (s.accept code).curCmd = code ∧ (s.accept code).st = .none ∧ (s.accept code).errCode = .none ∧
    (s.accept code).errTp = 0 ∧ (s.accept code).errCause = .none ∧ (s.accept code).rcState = .idle ∧
    (s.accept code).remaining = 0 ∧ (s.accept code).attempts = 0 ∧ (s.accept code).rcN = 0 ∧
    s.accept code = { s with
      curCmd := code, st := .none, errCode := .none, errTp := 0, errCause := .none, rcState := .idle
      remaining := 0, attempts := 0, rcN := 0 }

/-- R53, R163, R178, R212, R242: an accepted command either ends, with exactly one `done` and PHASE = IDLE and ST written, or
submits exactly one frame and awaits with no `done`; an answer submits again only under WRSR. -/
def Obligations.OneDoneOrOneSubmitPerStep : Prop :=
  (∀ (i : Instr) (s t : State), i.isCommand = true → s.phase = .idle → exec i s = .next t →
    ∃ events, t.trace = s.trace ++ events ∧
      ((t.phase = .idle ∧ t.st ≠ .none ∧ doneCount events = 1 ∧ submitCount events = 0) ∨
       (t.phase = .await ∧ t.st = .none ∧ doneCount events = 0 ∧ submitCount events = 1))) ∧
  ∀ (s t : State) (r : TpResult), s.Inv → s.phase = .await → tpResult r s = .next t →
    ∃ events, t.trace = s.trace ++ events ∧
      ((t.phase = .idle ∧ t.st ≠ .none ∧ doneCount events = 1 ∧ submitCount events = 0) ∨
       (s.curCmd = 0x9#4 ∧ t.phase = .await ∧ t.st = .none ∧ doneCount events = 0 ∧ submitCount events = 1))

/-- R192, R11: RegWrite is rejected in AWAIT, at the RO registers (0x10 to 0x14, 0x18 to 0x1E, 0x20 to 0x29) and at the
unassigned indexes; otherwise the register takes the
value truncated to its width, and nothing else of the block changes. -/
def Obligations.RegWriteRule : Prop :=
  ∀ (s : State) (index value : Nat),
    (s.phase = .await ∨
        ((0x10 ≤ index ∧ index ≤ 0x14) ∨ (0x18 ≤ index ∧ index ≤ 0x1E) ∨ (0x20 ≤ index ∧ index ≤ 0x29)) ∨
        ((0x05 < index ∧ index < 0x08) ∨ (0x0A < index ∧ index < 0x10) ∨ (0x14 < index ∧ index < 0x18) ∨
          index = 0x1F ∨ 0x29 < index) →
      regWrite index value s = { s with replies := s.replies ++ [.rejected] }) ∧
    (s.phase = .idle →
      regWrite 0x00 value s = { s with opSlave := BitVec.ofNat 8 value, replies := s.replies ++ [.accepted] } ∧
      regWrite 0x01 value s = { s with opFunc := BitVec.ofNat 8 value, replies := s.replies ++ [.accepted] } ∧
      regWrite 0x02 value s = { s with opF1 := BitVec.ofNat 16 value, replies := s.replies ++ [.accepted] } ∧
      regWrite 0x03 value s = { s with opF2 := BitVec.ofNat 16 value, replies := s.replies ++ [.accepted] } ∧
      regWrite 0x04 value s = { s with opRetry := BitVec.ofNat 16 value, replies := s.replies ++ [.accepted] } ∧
      regWrite 0x05 value s = { s with
        opCtrl := { retryEn := value.testBit 0, xform := value.testBit 1, dtype := BitVec.ofNat 3 (value / 4) }
        replies := s.replies ++ [.accepted] } ∧
      regWrite 0x08 value s = { s with
        cfgDefaultRetry := BitVec.ofNat 16 value, replies := s.replies ++ [.accepted] } ∧
      regWrite 0x09 value s = { s with
        cfgRespTimeout := BitVec.ofNat _ value, replies := s.replies ++ [.accepted] } ∧
      regWrite 0x0A value s = { s with
        cfgQueueTimeout := BitVec.ofNat _ value, replies := s.replies ++ [.accepted] })

/-- R11, R193: RegRead of every index of the register map, in any PHASE, and of an unassigned one. -/
def Obligations.RegReadMap : Prop :=
  ∀ s : State,
    (∀ (index : Nat) (v : Reply),
      (index, v) ∈ [
        (0x00, Reply.value (s.opSlave.setWidth 16)), (0x01, .value (s.opFunc.setWidth 16)), (0x02, .value s.opF1),
        (0x03, .value s.opF2), (0x04, .value s.opRetry), (0x05, .value s.opCtrl.num),
        (0x08, .value s.cfgDefaultRetry), (0x09, .timeoutValue s.cfgRespTimeout),
        (0x0A, .timeoutValue s.cfgQueueTimeout), (0x10, .value (s.status.setWidth 16)),
        (0x11, .value (s.curCmd.setWidth 16)), (0x12, .value (s.errCode.num.setWidth 16)),
        (0x13, .value (s.errTp.setWidth 16)), (0x14, .value (s.errCause.num.setWidth 16)),
        (0x18, .value (s.rcState.num.setWidth 16)), (0x19, .value s.remaining), (0x1A, .value s.attempts),
        (0x1B, .value s.rcN), (0x1C, .value (s.ctxSlave.setWidth 16)), (0x1D, .value s.ctxReg),
        (0x1E, .value s.ctxValue), (0x20, .value s.crcr), (0x21, .value s.crcx),
        (0x22, .value (BitVec.ofNat 16 s.txlen)), (0x23, .value (s.txst.num.setWidth 16)),
        (0x24, .value (BitVec.ofNat 16 s.rxlen)), (0x25, .value (s.rxflags.setWidth 16)), (0x26, .value s.payLen),
        (0x27, .value (BitVec.ofNat 16 s.outCount)), (0x28, .value (s.outKind.setWidth 16)),
        (0x29, .value (BitVec.ofNat 16 s.vallen))] →
      regRead index s = { s with replies := s.replies ++ [v] }) ∧
    ∀ index : Nat, (0x05 < index ∧ index < 0x08) ∨ (0x0A < index ∧ index < 0x10) ∨ (0x14 < index ∧ index < 0x18) ∨
        index = 0x1F ∨ 0x29 < index →
      regRead index s = { s with replies := s.replies ++ [.rejected] }

/-- R16, R19, R28: the packed registers as numbers: STATUS is BUSY + 2 * ST, RXFLAGS is RX_VALID + 2 * PAY_VALID, OP_CTRL is
RETRY_EN + 2 * XFORM + 4 * DTYPE, so the reserved bits read as zero.  R19, R21, R27, R200: the numbers of ST, RC_STATE and TXST, and of the errors that
ERR_CODE and ERR_CAUSE hold. -/
def Obligations.PackedRegisterNumbers : Prop :=
  (St.none.num = 0#2 ∧ St.ok.num = 1#2 ∧ St.err.num = 2#2) ∧
  (RcState.idle.num = 0#2 ∧ RcState.attempting.num = 1#2 ∧ RcState.succeeded.num = 2#2 ∧ RcState.exhausted.num = 3#2) ∧
  (TxState.empty.num = 0#2 ∧ TxState.open.num = 1#2 ∧ TxState.sealed.num = 2#2 ∧ TxState.spent.num = 3#2) ∧
  (ErrCode.none.num = 0x00#8 ∧ ErrCode.crcMismatch.num = 0x01#8 ∧ ErrCode.retryLimitExceeded.num = 0x02#8 ∧
    ErrCode.transportError.num = 0x03#8 ∧ ErrCode.decodeError.num = 0x04#8 ∧ ErrCode.preconditionError.num = 0x05#8 ∧
    ErrCode.illegalCommand.num = 0x06#8) ∧
  ∀ s : State,
    s.status.toNat = (if s.phase = .await then 1 else 0) + 2 * s.st.num.toNat ∧
    s.rxflags.toNat = s.rxValid.toNat + 2 * s.payValid.toNat ∧
    s.opCtrl.num.toNat = s.opCtrl.retryEn.toNat + 2 * s.opCtrl.xform.toNat + 4 * s.opCtrl.dtype.toNat ∧
    OpCtrl.ofNum s.opCtrl.num = s.opCtrl

/-- R194: BufLoad is rejected in AWAIT and above the buffer's limit; otherwise the whole content is replaced, with its
frame. -/
def Obligations.BufLoadRule : Prop :=
  ∀ s : State,
    (∀ l : Load, s.phase = .await → bufLoad l s = { s with replies := s.replies ++ [.rejected] }) ∧
    (∀ b : List Byte, s.phase = .idle →
      bufLoad (.txbuf b) s =
        (if b.length ≤ 261 then
          { s with mem := { s.mem with txbuf := b }, txst := .open, replies := s.replies ++ [.accepted] }
        else { s with replies := s.replies ++ [.rejected] }) ∧
      bufLoad (.rxbuf b) s =
        (if b.length ≤ 263 then
          { s with
            mem := { s.mem with rxbuf := b }, rxValid := false, payValid := false, replies := s.replies ++ [.accepted] }
        else { s with replies := s.replies ++ [.rejected] })) ∧
    ∀ b : List Half, s.phase = .idle →
      bufLoad (.valbuf b) s =
        (if b.length ≤ 127 then { s with mem := { s.mem with valbuf := b }, replies := s.replies ++ [.accepted] }
        else { s with replies := s.replies ++ [.rejected] })

/-- R195: BufRead of the `n` units from index `a` of each buffer, unit by unit; rejected beyond the valid length. -/
def Obligations.BufReadRule : Prop :=
  ∀ (s : State) (a n : Nat),
    (∀ space : Space, s.validLength space < a + n →
      bufRead space a n s = { s with replies := s.replies ++ [.rejected] }) ∧
    (a + n ≤ s.txlen → ∃ u : List Byte,
      bufRead .txbuf a n s = { s with replies := s.replies ++ [.bytes u] } ∧ u.length = n ∧
        ∀ i, i < n → u[i]? = s.mem.txbuf[a + i]?) ∧
    (a + n ≤ s.rxlen → ∃ u : List Byte,
      bufRead .rxbuf a n s = { s with replies := s.replies ++ [.bytes u] } ∧ u.length = n ∧
        ∀ i, i < n → u[i]? = s.mem.rxbuf[a + i]?) ∧
    (a + n ≤ s.vallen → ∃ u : List Half,
      bufRead .valbuf a n s = { s with replies := s.replies ++ [.halves u] } ∧ u.length = n ∧
        ∀ i, i < n → u[i]? = s.mem.valbuf[a + i]?) ∧
    (a + n ≤ s.outCount → ∃ u : List Word,
      bufRead .outbuf a n s = { s with replies := s.replies ++ [.words u] } ∧ u.length = n ∧
        ∀ i, i < n → u[i]? = s.mem.outbuf[a + i]?)

/-- R72, R192: a DataType row writes OP_CTRL's three fields and nothing else of the block; in AWAIT it is rejected.  That the
row is this register write is the model's reading of the table (log entry 5). -/
def Obligations.DataTypeRowsSelectTheTag : Prop :=
  ∀ (s : State) (retryEn xform : Bool) (i : Instr) (tag : BitVec 3),
    (i, tag) ∈ [(Instr.dtypeU16 retryEn xform, 0#3), (.dtypeS16 retryEn xform, 1#3), (.dtypeU32 retryEn xform, 2#3),
      (.dtypeS32 retryEn xform, 3#3), (.dtypeF32 retryEn xform, 4#3), (.dtypeRaw retryEn xform, 5#3),
      (.dtypeReserved6 retryEn xform, 6#3), (.dtypeReserved7 retryEn xform, 7#3)] →
    (s.phase = .idle →
      exec i s = .next { s with
        opCtrl := { retryEn := retryEn, xform := xform, dtype := tag }, replies := s.replies ++ [.accepted] }) ∧
    (s.phase = .await → exec i s = .next { s with replies := s.replies ++ [.rejected] })

/-- A wire-frame row in the request it answers: under REQ and WRMR a frame with its trailer (every frame row but TRAILER) is
stored, found valid and returned, with its frame; TRAILER is so when its two bytes are the code of its body (R64, R65, R73,
R177, R189).  That the row is this arrival is the model's reading of the table (log entry 4). -/
def Obligations.FrameRowsAreReceived : Prop :=
  ∀ (s : State) (i : Instr), s.phase = .await → s.curCmd = 0x7#4 ∨ s.curCmd = 0xA#4 → i.isFrame = true →
    i.wellFormed = true → (∀ body low high, i = .trailer body low high → [low, high] = le16 (crc16 body)) →
    exec i s = .next { s with
      mem := { s.mem with rxbuf := (encode i).2 }, rxValid := true, payValid := false
      crcr := crc16 ((encode i).2.take ((encode i).2.length - 2))
      crcx := crc16 ((encode i).2.take ((encode i).2.length - 2))
      txst := .spent, st := .ok, phase := .idle, trace := s.trace ++ [.doneOk] }
end

