-- ==== Sys2Proof/Laws/Bytes.lean ====
section
/-! SUPPORT. Byte order and lengths: what the slices and joins of R6 do to each other, and how long the built sequences are. -/

namespace Sys2Proof.Machine

theorem hi8_toNat (v : Half) : (hi8 v).toNat = v.toNat / 256 := by
  have := v.isLt
  simp [hi8, BitVec.extractLsb'_toNat, Nat.shiftRight_eq_div_pow]
  omega

theorem lo8_toNat (v : Half) : (lo8 v).toNat = v.toNat % 256 := by simp [lo8, BitVec.extractLsb'_toNat]

theorem join16_toNat (h l : Byte) : (join16 h l).toNat = h.toNat * 256 + l.toNat := by
  have := h.isLt
  have := l.isLt
  simp only [join16, BitVec.toNat_ofNat]
  omega

theorem join32_toNat (a b c d : Byte) :
    (join32 a b c d).toNat = a.toNat * 2 ^ 24 + b.toNat * 2 ^ 16 + c.toNat * 2 ^ 8 + d.toNat := by
  have := a.isLt
  have := b.isLt
  have := c.isLt
  have := d.isLt
  simp only [join32, BitVec.toNat_ofNat]
  omega

@[simp] theorem join16_hi8_lo8 (v : Half) : join16 (hi8 v) (lo8 v) = v := by
  apply BitVec.eq_of_toNat_eq
  rw [join16_toNat, hi8_toNat, lo8_toNat]
  omega

@[simp] theorem hi8_join16 (h l : Byte) : hi8 (join16 h l) = h := by
  apply BitVec.eq_of_toNat_eq
  have := l.isLt
  rw [hi8_toNat, join16_toNat]
  omega

@[simp] theorem lo8_join16 (h l : Byte) : lo8 (join16 h l) = l := by
  apply BitVec.eq_of_toNat_eq
  have := l.isLt
  rw [lo8_toNat, join16_toNat]
  omega

@[simp] theorem length_le16 (v : Half) : (le16 v).length = 2 := rfl

@[simp] theorem length_be16 (v : Half) : (be16 v).length = 2 := rfl

@[simp] theorem length_appendTrailer (s : List Byte) : (appendTrailer s).length = s.length + 2 := by simp [appendTrailer]

@[simp] theorem length_buildFixed (a f : Byte) (p q : Half) : (buildFixed a f p q).length = 6 := rfl

theorem length_flatMap_be16 (vals : List Half) : (vals.flatMap be16).length = 2 * vals.length := by
  induction vals with
  | nil => rfl
  | cons v rest ih => simp [ih]; omega

@[simp] theorem length_buildVar (a f : Byte) (s : Half) (vals : List Half) :
    (buildVar a f s vals).length = 7 + 2 * vals.length := by
  simp [buildVar]; omega

@[simp] theorem length_wireFixed (a f : Byte) (p q : Half) : (wireFixed a f p q).length = 8 := by simp [wireFixed]

@[simp] theorem length_wireVar (a f : Byte) (s : Half) (vals : List Half) :
    (wireVar a f s vals).length = 9 + 2 * vals.length := by
  simp [wireVar]; omega

@[simp] theorem length_wireRespRead (a f n : Byte) (p : List Byte) : (wireRespRead a f n p).length = p.length + 5 := by
  simp [wireRespRead]

@[simp] theorem length_wireAny (body : List Byte) (l h : Byte) : (wireAny body l h).length = body.length + 2 := by
  simp [wireAny]

@[simp] theorem take_appendTrailer (s : List Byte) : (appendTrailer s).take s.length = s := by simp [appendTrailer]

/-- The words of a run of big-endian words are those words (R64, R68). -/
@[simp] theorem words16_flatMap_be16 (vals : List Half) : words16 (vals.flatMap be16) = vals := by
  induction vals with
  | nil => rfl
  | cons v rest ih => simp [be16, words16, ih]

/-- A sequence of an even length is the big-endian bytes of its words (R64, R68). -/
theorem flatMap_be16_words16 : ∀ {p : List Byte}, p.length % 2 = 0 → (words16 p).flatMap be16 = p
  | [], _ => rfl
  | [_], h => by simp at h
  | a :: b :: rest, h => by
    have := flatMap_be16_words16 (p := rest) (by simp at h; omega)
    simp [words16, be16, this]

/-- The trailer of a sealed sequence is the code of what was sealed, and is found where a validation looks (R115, R117). -/
theorem sealed_codes (s : List Byte) : bodyCrc (appendTrailer s) = crc16 s ∧ foundCrc (appendTrailer s) = crc16 s := by
  constructor
  · simp [bodyCrc]
  · simp [foundCrc, u16le, appendTrailer, le16]

end Sys2Proof.Machine
end

