-- ==== Sys2Proof/Laws/Crc.lean ====
section
/-! SUPPORT. The CRC step is linear over exclusive-or and loses nothing: the facts behind R113 and R120. -/

namespace Sys2Proof.Machine

theorem crcBit_xor (a b : Half) : crcBit (a ^^^ b) = crcBit a ^^^ crcBit b := by
  simp only [crcBit, BitVec.getLsbD_xor]
  cases a.getLsbD 0 <;> cases b.getLsbD 0 <;> simp [BitVec.ushiftRight_xor_distrib] <;> (try ac_rfl)
  rw [show a >>> 1 ^^^ Config.crcPoly ^^^ (b >>> 1 ^^^ Config.crcPoly) =
    a >>> 1 ^^^ b >>> 1 ^^^ (Config.crcPoly ^^^ Config.crcPoly) by ac_rfl]
  simp

theorem crcBits_xor (n : Nat) (a b : Half) : crcBits n (a ^^^ b) = crcBits n a ^^^ crcBits n b := by
  induction n generalizing a b with
  | zero => rfl
  | succ n ih => simp [crcBits, crcBit_xor, ih]

theorem crcByte_xor (a b : Half) (x y : Byte) : crcByte (a ^^^ b) (x ^^^ y) = crcByte a x ^^^ crcByte b y := by
  simp only [crcByte]
  rw [← crcBits_xor, BitVec.setWidth_xor]
  congr 1
  ac_rfl

/-- While the low bits are zero a bit step is a plain shift. -/
theorem crcBits_shift (n : Nat) : ∀ c : Half, (∀ i, i < n → c.getLsbD i = false) → crcBits n c = c >>> n := by
  induction n with
  | zero => intro c _; simp [crcBits]
  | succ n ih =>
    intro c h
    have h0 := h 0 (by omega)
    have hb : crcBit c = c >>> 1 := by simp only [crcBit, h0]; rfl
    simp only [crcBits]
    rw [hb, ih]
    · ext i hi
      simp
      congr 1
      omega
    · intro i hi
      simpa using h (1 + i) (by omega)

/-- A bit step sends only zero to zero: CRC_POLY has its top bit set, which a shift clears. -/
theorem crcBit_eq_zero {a : Half} (h : crcBit a = 0) : a = 0 := by
  simp only [crcBit] at h
  split at h
  · exfalso
    have := congrArg (fun x => x.getLsbD 15) h
    simp [Config.crcPoly] at this
  · rename_i h0
    ext i hi
    by_cases hi0 : i = 0
    · subst hi0
      simpa using h0
    · have := congrArg (fun x => x.getLsbD (i - 1)) h
      simp at this
      rw [show 1 + (i - 1) = i by omega] at this
      have hh : i < 16 := hi
      simpa [BitVec.getLsbD_eq_getElem hh] using this

theorem crcBits_eq_zero {n : Nat} {a : Half} (h : crcBits n a = 0) : a = 0 := by
  induction n generalizing a with
  | zero => exact h
  | succ n ih => exact crcBit_eq_zero (ih h)

theorem crcBits_injective {n : Nat} {a b : Half} (h : crcBits n a = crcBits n b) : a = b := by
  have hx : crcBits n (a ^^^ b) = 0 := by rw [crcBits_xor, h]; simp
  exact BitVec.xor_eq_zero_iff.mp (crcBits_eq_zero hx)

end Sys2Proof.Machine
end

