-- ==== Sys2Proof/Laws/State.lean ====
section
/-! SUPPORT. What each shared update of the state leaves in each field: one lemma per field and update, all by `rfl`. -/

namespace Sys2Proof.Machine.State

section

variable (s : State)

/-! ### `emit` -/

@[simp] theorem emit_opSlave (e : Event) : (s.emit e).opSlave = s.opSlave := rfl
@[simp] theorem emit_opFunc (e : Event) : (s.emit e).opFunc = s.opFunc := rfl
@[simp] theorem emit_opF1 (e : Event) : (s.emit e).opF1 = s.opF1 := rfl
@[simp] theorem emit_opF2 (e : Event) : (s.emit e).opF2 = s.opF2 := rfl
@[simp] theorem emit_opRetry (e : Event) : (s.emit e).opRetry = s.opRetry := rfl
@[simp] theorem emit_opCtrl (e : Event) : (s.emit e).opCtrl = s.opCtrl := rfl
@[simp] theorem emit_cfgDefaultRetry (e : Event) : (s.emit e).cfgDefaultRetry = s.cfgDefaultRetry := rfl
@[simp] theorem emit_cfgRespTimeout (e : Event) : (s.emit e).cfgRespTimeout = s.cfgRespTimeout := rfl
@[simp] theorem emit_cfgQueueTimeout (e : Event) : (s.emit e).cfgQueueTimeout = s.cfgQueueTimeout := rfl
@[simp] theorem emit_phase (e : Event) : (s.emit e).phase = s.phase := rfl
@[simp] theorem emit_st (e : Event) : (s.emit e).st = s.st := rfl
@[simp] theorem emit_curCmd (e : Event) : (s.emit e).curCmd = s.curCmd := rfl
@[simp] theorem emit_rcState (e : Event) : (s.emit e).rcState = s.rcState := rfl
@[simp] theorem emit_remaining (e : Event) : (s.emit e).remaining = s.remaining := rfl
@[simp] theorem emit_attempts (e : Event) : (s.emit e).attempts = s.attempts := rfl
@[simp] theorem emit_rcN (e : Event) : (s.emit e).rcN = s.rcN := rfl
@[simp] theorem emit_ctxSlave (e : Event) : (s.emit e).ctxSlave = s.ctxSlave := rfl
@[simp] theorem emit_ctxReg (e : Event) : (s.emit e).ctxReg = s.ctxReg := rfl
@[simp] theorem emit_ctxValue (e : Event) : (s.emit e).ctxValue = s.ctxValue := rfl
@[simp] theorem emit_errCode (e : Event) : (s.emit e).errCode = s.errCode := rfl
@[simp] theorem emit_errTp (e : Event) : (s.emit e).errTp = s.errTp := rfl
@[simp] theorem emit_errCause (e : Event) : (s.emit e).errCause = s.errCause := rfl
@[simp] theorem emit_crcr (e : Event) : (s.emit e).crcr = s.crcr := rfl
@[simp] theorem emit_crcx (e : Event) : (s.emit e).crcx = s.crcx := rfl
@[simp] theorem emit_txst (e : Event) : (s.emit e).txst = s.txst := rfl
@[simp] theorem emit_rxValid (e : Event) : (s.emit e).rxValid = s.rxValid := rfl
@[simp] theorem emit_payValid (e : Event) : (s.emit e).payValid = s.payValid := rfl
@[simp] theorem emit_payLen (e : Event) : (s.emit e).payLen = s.payLen := rfl
@[simp] theorem emit_outKind (e : Event) : (s.emit e).outKind = s.outKind := rfl
@[simp] theorem emit_mem (e : Event) : (s.emit e).mem = s.mem := rfl
@[simp] theorem emit_inbox (e : Event) : (s.emit e).inbox = s.inbox := rfl
@[simp] theorem emit_trace (e : Event) : (s.emit e).trace = s.trace ++ [e] := rfl
@[simp] theorem emit_replies (e : Event) : (s.emit e).replies = s.replies := rfl

/-! ### `answerHost` -/

@[simp] theorem answerHost_opSlave (r : Reply) : (s.answerHost r).opSlave = s.opSlave := rfl
@[simp] theorem answerHost_opFunc (r : Reply) : (s.answerHost r).opFunc = s.opFunc := rfl
@[simp] theorem answerHost_opF1 (r : Reply) : (s.answerHost r).opF1 = s.opF1 := rfl
@[simp] theorem answerHost_opF2 (r : Reply) : (s.answerHost r).opF2 = s.opF2 := rfl
@[simp] theorem answerHost_opRetry (r : Reply) : (s.answerHost r).opRetry = s.opRetry := rfl
@[simp] theorem answerHost_opCtrl (r : Reply) : (s.answerHost r).opCtrl = s.opCtrl := rfl
@[simp] theorem answerHost_cfgDefaultRetry (r : Reply) : (s.answerHost r).cfgDefaultRetry = s.cfgDefaultRetry := rfl
@[simp] theorem answerHost_cfgRespTimeout (r : Reply) : (s.answerHost r).cfgRespTimeout = s.cfgRespTimeout := rfl
@[simp] theorem answerHost_cfgQueueTimeout (r : Reply) : (s.answerHost r).cfgQueueTimeout = s.cfgQueueTimeout := rfl
@[simp] theorem answerHost_phase (r : Reply) : (s.answerHost r).phase = s.phase := rfl
@[simp] theorem answerHost_st (r : Reply) : (s.answerHost r).st = s.st := rfl
@[simp] theorem answerHost_curCmd (r : Reply) : (s.answerHost r).curCmd = s.curCmd := rfl
@[simp] theorem answerHost_rcState (r : Reply) : (s.answerHost r).rcState = s.rcState := rfl
@[simp] theorem answerHost_remaining (r : Reply) : (s.answerHost r).remaining = s.remaining := rfl
@[simp] theorem answerHost_attempts (r : Reply) : (s.answerHost r).attempts = s.attempts := rfl
@[simp] theorem answerHost_rcN (r : Reply) : (s.answerHost r).rcN = s.rcN := rfl
@[simp] theorem answerHost_ctxSlave (r : Reply) : (s.answerHost r).ctxSlave = s.ctxSlave := rfl
@[simp] theorem answerHost_ctxReg (r : Reply) : (s.answerHost r).ctxReg = s.ctxReg := rfl
@[simp] theorem answerHost_ctxValue (r : Reply) : (s.answerHost r).ctxValue = s.ctxValue := rfl
@[simp] theorem answerHost_errCode (r : Reply) : (s.answerHost r).errCode = s.errCode := rfl
@[simp] theorem answerHost_errTp (r : Reply) : (s.answerHost r).errTp = s.errTp := rfl
@[simp] theorem answerHost_errCause (r : Reply) : (s.answerHost r).errCause = s.errCause := rfl
@[simp] theorem answerHost_crcr (r : Reply) : (s.answerHost r).crcr = s.crcr := rfl
@[simp] theorem answerHost_crcx (r : Reply) : (s.answerHost r).crcx = s.crcx := rfl
@[simp] theorem answerHost_txst (r : Reply) : (s.answerHost r).txst = s.txst := rfl
@[simp] theorem answerHost_rxValid (r : Reply) : (s.answerHost r).rxValid = s.rxValid := rfl
@[simp] theorem answerHost_payValid (r : Reply) : (s.answerHost r).payValid = s.payValid := rfl
@[simp] theorem answerHost_payLen (r : Reply) : (s.answerHost r).payLen = s.payLen := rfl
@[simp] theorem answerHost_outKind (r : Reply) : (s.answerHost r).outKind = s.outKind := rfl
@[simp] theorem answerHost_mem (r : Reply) : (s.answerHost r).mem = s.mem := rfl
@[simp] theorem answerHost_inbox (r : Reply) : (s.answerHost r).inbox = s.inbox := rfl
@[simp] theorem answerHost_trace (r : Reply) : (s.answerHost r).trace = s.trace := rfl
@[simp] theorem answerHost_replies (r : Reply) : (s.answerHost r).replies = s.replies ++ [r] := rfl

/-! ### `accept` -/

@[simp] theorem accept_opSlave (code : BitVec 4) : (s.accept code).opSlave = s.opSlave := rfl
@[simp] theorem accept_opFunc (code : BitVec 4) : (s.accept code).opFunc = s.opFunc := rfl
@[simp] theorem accept_opF1 (code : BitVec 4) : (s.accept code).opF1 = s.opF1 := rfl
@[simp] theorem accept_opF2 (code : BitVec 4) : (s.accept code).opF2 = s.opF2 := rfl
@[simp] theorem accept_opRetry (code : BitVec 4) : (s.accept code).opRetry = s.opRetry := rfl
@[simp] theorem accept_opCtrl (code : BitVec 4) : (s.accept code).opCtrl = s.opCtrl := rfl
@[simp] theorem accept_cfgDefaultRetry (code : BitVec 4) : (s.accept code).cfgDefaultRetry = s.cfgDefaultRetry := rfl
@[simp] theorem accept_cfgRespTimeout (code : BitVec 4) : (s.accept code).cfgRespTimeout = s.cfgRespTimeout := rfl
@[simp] theorem accept_cfgQueueTimeout (code : BitVec 4) : (s.accept code).cfgQueueTimeout = s.cfgQueueTimeout := rfl
@[simp] theorem accept_phase (code : BitVec 4) : (s.accept code).phase = s.phase := rfl
@[simp] theorem accept_st (code : BitVec 4) : (s.accept code).st = .none := rfl
@[simp] theorem accept_curCmd (code : BitVec 4) : (s.accept code).curCmd = code := rfl
@[simp] theorem accept_rcState (code : BitVec 4) : (s.accept code).rcState = .idle := rfl
@[simp] theorem accept_remaining (code : BitVec 4) : (s.accept code).remaining = 0 := rfl
@[simp] theorem accept_attempts (code : BitVec 4) : (s.accept code).attempts = 0 := rfl
@[simp] theorem accept_rcN (code : BitVec 4) : (s.accept code).rcN = 0 := rfl
@[simp] theorem accept_ctxSlave (code : BitVec 4) : (s.accept code).ctxSlave = s.ctxSlave := rfl
@[simp] theorem accept_ctxReg (code : BitVec 4) : (s.accept code).ctxReg = s.ctxReg := rfl
@[simp] theorem accept_ctxValue (code : BitVec 4) : (s.accept code).ctxValue = s.ctxValue := rfl
@[simp] theorem accept_errCode (code : BitVec 4) : (s.accept code).errCode = .none := rfl
@[simp] theorem accept_errTp (code : BitVec 4) : (s.accept code).errTp = 0 := rfl
@[simp] theorem accept_errCause (code : BitVec 4) : (s.accept code).errCause = .none := rfl
@[simp] theorem accept_crcr (code : BitVec 4) : (s.accept code).crcr = s.crcr := rfl
@[simp] theorem accept_crcx (code : BitVec 4) : (s.accept code).crcx = s.crcx := rfl
@[simp] theorem accept_txst (code : BitVec 4) : (s.accept code).txst = s.txst := rfl
@[simp] theorem accept_rxValid (code : BitVec 4) : (s.accept code).rxValid = s.rxValid := rfl
@[simp] theorem accept_payValid (code : BitVec 4) : (s.accept code).payValid = s.payValid := rfl
@[simp] theorem accept_payLen (code : BitVec 4) : (s.accept code).payLen = s.payLen := rfl
@[simp] theorem accept_outKind (code : BitVec 4) : (s.accept code).outKind = s.outKind := rfl
@[simp] theorem accept_mem (code : BitVec 4) : (s.accept code).mem = s.mem := rfl
@[simp] theorem accept_inbox (code : BitVec 4) : (s.accept code).inbox = s.inbox := rfl
@[simp] theorem accept_trace (code : BitVec 4) : (s.accept code).trace = s.trace := rfl
@[simp] theorem accept_replies (code : BitVec 4) : (s.accept code).replies = s.replies := rfl

/-! ### `endOk` -/

@[simp] theorem endOk_opSlave : (s.endOk).opSlave = s.opSlave := rfl
@[simp] theorem endOk_opFunc : (s.endOk).opFunc = s.opFunc := rfl
@[simp] theorem endOk_opF1 : (s.endOk).opF1 = s.opF1 := rfl
@[simp] theorem endOk_opF2 : (s.endOk).opF2 = s.opF2 := rfl
@[simp] theorem endOk_opRetry : (s.endOk).opRetry = s.opRetry := rfl
@[simp] theorem endOk_opCtrl : (s.endOk).opCtrl = s.opCtrl := rfl
@[simp] theorem endOk_cfgDefaultRetry : (s.endOk).cfgDefaultRetry = s.cfgDefaultRetry := rfl
@[simp] theorem endOk_cfgRespTimeout : (s.endOk).cfgRespTimeout = s.cfgRespTimeout := rfl
@[simp] theorem endOk_cfgQueueTimeout : (s.endOk).cfgQueueTimeout = s.cfgQueueTimeout := rfl
@[simp] theorem endOk_phase : (s.endOk).phase = .idle := rfl
@[simp] theorem endOk_st : (s.endOk).st = .ok := rfl
@[simp] theorem endOk_curCmd : (s.endOk).curCmd = s.curCmd := rfl
@[simp] theorem endOk_rcState : (s.endOk).rcState = s.rcState := rfl
@[simp] theorem endOk_remaining : (s.endOk).remaining = s.remaining := rfl
@[simp] theorem endOk_attempts : (s.endOk).attempts = s.attempts := rfl
@[simp] theorem endOk_rcN : (s.endOk).rcN = s.rcN := rfl
@[simp] theorem endOk_ctxSlave : (s.endOk).ctxSlave = s.ctxSlave := rfl
@[simp] theorem endOk_ctxReg : (s.endOk).ctxReg = s.ctxReg := rfl
@[simp] theorem endOk_ctxValue : (s.endOk).ctxValue = s.ctxValue := rfl
@[simp] theorem endOk_errCode : (s.endOk).errCode = s.errCode := rfl
@[simp] theorem endOk_errTp : (s.endOk).errTp = s.errTp := rfl
@[simp] theorem endOk_errCause : (s.endOk).errCause = s.errCause := rfl
@[simp] theorem endOk_crcr : (s.endOk).crcr = s.crcr := rfl
@[simp] theorem endOk_crcx : (s.endOk).crcx = s.crcx := rfl
@[simp] theorem endOk_txst : (s.endOk).txst = s.txst := rfl
@[simp] theorem endOk_rxValid : (s.endOk).rxValid = s.rxValid := rfl
@[simp] theorem endOk_payValid : (s.endOk).payValid = s.payValid := rfl
@[simp] theorem endOk_payLen : (s.endOk).payLen = s.payLen := rfl
@[simp] theorem endOk_outKind : (s.endOk).outKind = s.outKind := rfl
@[simp] theorem endOk_mem : (s.endOk).mem = s.mem := rfl
@[simp] theorem endOk_inbox : (s.endOk).inbox = s.inbox := rfl
@[simp] theorem endOk_trace : (s.endOk).trace = s.trace ++ [.doneOk] := rfl
@[simp] theorem endOk_replies : (s.endOk).replies = s.replies := rfl

/-! ### `raise` -/

@[simp] theorem raise_opSlave (e : ErrCode) : (s.raise e).opSlave = s.opSlave := rfl
@[simp] theorem raise_opFunc (e : ErrCode) : (s.raise e).opFunc = s.opFunc := rfl
@[simp] theorem raise_opF1 (e : ErrCode) : (s.raise e).opF1 = s.opF1 := rfl
@[simp] theorem raise_opF2 (e : ErrCode) : (s.raise e).opF2 = s.opF2 := rfl
@[simp] theorem raise_opRetry (e : ErrCode) : (s.raise e).opRetry = s.opRetry := rfl
@[simp] theorem raise_opCtrl (e : ErrCode) : (s.raise e).opCtrl = s.opCtrl := rfl
@[simp] theorem raise_cfgDefaultRetry (e : ErrCode) : (s.raise e).cfgDefaultRetry = s.cfgDefaultRetry := rfl
@[simp] theorem raise_cfgRespTimeout (e : ErrCode) : (s.raise e).cfgRespTimeout = s.cfgRespTimeout := rfl
@[simp] theorem raise_cfgQueueTimeout (e : ErrCode) : (s.raise e).cfgQueueTimeout = s.cfgQueueTimeout := rfl
@[simp] theorem raise_phase (e : ErrCode) : (s.raise e).phase = .idle := rfl
@[simp] theorem raise_st (e : ErrCode) : (s.raise e).st = .err := rfl
@[simp] theorem raise_curCmd (e : ErrCode) : (s.raise e).curCmd = s.curCmd := rfl
@[simp] theorem raise_rcState (e : ErrCode) : (s.raise e).rcState = s.rcState := rfl
@[simp] theorem raise_remaining (e : ErrCode) : (s.raise e).remaining = s.remaining := rfl
@[simp] theorem raise_attempts (e : ErrCode) : (s.raise e).attempts = s.attempts := rfl
@[simp] theorem raise_rcN (e : ErrCode) : (s.raise e).rcN = s.rcN := rfl
@[simp] theorem raise_ctxSlave (e : ErrCode) : (s.raise e).ctxSlave = s.ctxSlave := rfl
@[simp] theorem raise_ctxReg (e : ErrCode) : (s.raise e).ctxReg = s.ctxReg := rfl
@[simp] theorem raise_ctxValue (e : ErrCode) : (s.raise e).ctxValue = s.ctxValue := rfl
@[simp] theorem raise_errCode (e : ErrCode) : (s.raise e).errCode = e := rfl
@[simp] theorem raise_errTp (e : ErrCode) : (s.raise e).errTp = s.errTp := rfl
@[simp] theorem raise_errCause (e : ErrCode) : (s.raise e).errCause = s.errCause := rfl
@[simp] theorem raise_crcr (e : ErrCode) : (s.raise e).crcr = s.crcr := rfl
@[simp] theorem raise_crcx (e : ErrCode) : (s.raise e).crcx = s.crcx := rfl
@[simp] theorem raise_txst (e : ErrCode) : (s.raise e).txst = s.txst := rfl
@[simp] theorem raise_rxValid (e : ErrCode) : (s.raise e).rxValid = s.rxValid := rfl
@[simp] theorem raise_payValid (e : ErrCode) : (s.raise e).payValid = s.payValid := rfl
@[simp] theorem raise_payLen (e : ErrCode) : (s.raise e).payLen = s.payLen := rfl
@[simp] theorem raise_outKind (e : ErrCode) : (s.raise e).outKind = s.outKind := rfl
@[simp] theorem raise_mem (e : ErrCode) : (s.raise e).mem = s.mem := rfl
@[simp] theorem raise_inbox (e : ErrCode) : (s.raise e).inbox = s.inbox := rfl
@[simp] theorem raise_trace (e : ErrCode) : (s.raise e).trace = s.trace ++ [.doneErr] := rfl
@[simp] theorem raise_replies (e : ErrCode) : (s.raise e).replies = s.replies := rfl

/-! ### `clearRxFlags` -/

@[simp] theorem clearRxFlags_opSlave : (s.clearRxFlags).opSlave = s.opSlave := rfl
@[simp] theorem clearRxFlags_opFunc : (s.clearRxFlags).opFunc = s.opFunc := rfl
@[simp] theorem clearRxFlags_opF1 : (s.clearRxFlags).opF1 = s.opF1 := rfl
@[simp] theorem clearRxFlags_opF2 : (s.clearRxFlags).opF2 = s.opF2 := rfl
@[simp] theorem clearRxFlags_opRetry : (s.clearRxFlags).opRetry = s.opRetry := rfl
@[simp] theorem clearRxFlags_opCtrl : (s.clearRxFlags).opCtrl = s.opCtrl := rfl
@[simp] theorem clearRxFlags_cfgDefaultRetry : (s.clearRxFlags).cfgDefaultRetry = s.cfgDefaultRetry := rfl
@[simp] theorem clearRxFlags_cfgRespTimeout : (s.clearRxFlags).cfgRespTimeout = s.cfgRespTimeout := rfl
@[simp] theorem clearRxFlags_cfgQueueTimeout : (s.clearRxFlags).cfgQueueTimeout = s.cfgQueueTimeout := rfl
@[simp] theorem clearRxFlags_phase : (s.clearRxFlags).phase = s.phase := rfl
@[simp] theorem clearRxFlags_st : (s.clearRxFlags).st = s.st := rfl
@[simp] theorem clearRxFlags_curCmd : (s.clearRxFlags).curCmd = s.curCmd := rfl
@[simp] theorem clearRxFlags_rcState : (s.clearRxFlags).rcState = s.rcState := rfl
@[simp] theorem clearRxFlags_remaining : (s.clearRxFlags).remaining = s.remaining := rfl
@[simp] theorem clearRxFlags_attempts : (s.clearRxFlags).attempts = s.attempts := rfl
@[simp] theorem clearRxFlags_rcN : (s.clearRxFlags).rcN = s.rcN := rfl
@[simp] theorem clearRxFlags_ctxSlave : (s.clearRxFlags).ctxSlave = s.ctxSlave := rfl
@[simp] theorem clearRxFlags_ctxReg : (s.clearRxFlags).ctxReg = s.ctxReg := rfl
@[simp] theorem clearRxFlags_ctxValue : (s.clearRxFlags).ctxValue = s.ctxValue := rfl
@[simp] theorem clearRxFlags_errCode : (s.clearRxFlags).errCode = s.errCode := rfl
@[simp] theorem clearRxFlags_errTp : (s.clearRxFlags).errTp = s.errTp := rfl
@[simp] theorem clearRxFlags_errCause : (s.clearRxFlags).errCause = s.errCause := rfl
@[simp] theorem clearRxFlags_crcr : (s.clearRxFlags).crcr = s.crcr := rfl
@[simp] theorem clearRxFlags_crcx : (s.clearRxFlags).crcx = s.crcx := rfl
@[simp] theorem clearRxFlags_txst : (s.clearRxFlags).txst = s.txst := rfl
@[simp] theorem clearRxFlags_rxValid : (s.clearRxFlags).rxValid = false := rfl
@[simp] theorem clearRxFlags_payValid : (s.clearRxFlags).payValid = false := rfl
@[simp] theorem clearRxFlags_payLen : (s.clearRxFlags).payLen = s.payLen := rfl
@[simp] theorem clearRxFlags_outKind : (s.clearRxFlags).outKind = s.outKind := rfl
@[simp] theorem clearRxFlags_mem : (s.clearRxFlags).mem = s.mem := rfl
@[simp] theorem clearRxFlags_inbox : (s.clearRxFlags).inbox = s.inbox := rfl
@[simp] theorem clearRxFlags_trace : (s.clearRxFlags).trace = s.trace := rfl
@[simp] theorem clearRxFlags_replies : (s.clearRxFlags).replies = s.replies := rfl

/-! ### `openTx` -/

@[simp] theorem openTx_opSlave (h : List Byte) : (s.openTx h).opSlave = s.opSlave := rfl
@[simp] theorem openTx_opFunc (h : List Byte) : (s.openTx h).opFunc = s.opFunc := rfl
@[simp] theorem openTx_opF1 (h : List Byte) : (s.openTx h).opF1 = s.opF1 := rfl
@[simp] theorem openTx_opF2 (h : List Byte) : (s.openTx h).opF2 = s.opF2 := rfl
@[simp] theorem openTx_opRetry (h : List Byte) : (s.openTx h).opRetry = s.opRetry := rfl
@[simp] theorem openTx_opCtrl (h : List Byte) : (s.openTx h).opCtrl = s.opCtrl := rfl
@[simp] theorem openTx_cfgDefaultRetry (h : List Byte) : (s.openTx h).cfgDefaultRetry = s.cfgDefaultRetry := rfl
@[simp] theorem openTx_cfgRespTimeout (h : List Byte) : (s.openTx h).cfgRespTimeout = s.cfgRespTimeout := rfl
@[simp] theorem openTx_cfgQueueTimeout (h : List Byte) : (s.openTx h).cfgQueueTimeout = s.cfgQueueTimeout := rfl
@[simp] theorem openTx_phase (h : List Byte) : (s.openTx h).phase = s.phase := rfl
@[simp] theorem openTx_st (h : List Byte) : (s.openTx h).st = s.st := rfl
@[simp] theorem openTx_curCmd (h : List Byte) : (s.openTx h).curCmd = s.curCmd := rfl
@[simp] theorem openTx_rcState (h : List Byte) : (s.openTx h).rcState = s.rcState := rfl
@[simp] theorem openTx_remaining (h : List Byte) : (s.openTx h).remaining = s.remaining := rfl
@[simp] theorem openTx_attempts (h : List Byte) : (s.openTx h).attempts = s.attempts := rfl
@[simp] theorem openTx_rcN (h : List Byte) : (s.openTx h).rcN = s.rcN := rfl
@[simp] theorem openTx_ctxSlave (h : List Byte) : (s.openTx h).ctxSlave = s.ctxSlave := rfl
@[simp] theorem openTx_ctxReg (h : List Byte) : (s.openTx h).ctxReg = s.ctxReg := rfl
@[simp] theorem openTx_ctxValue (h : List Byte) : (s.openTx h).ctxValue = s.ctxValue := rfl
@[simp] theorem openTx_errCode (h : List Byte) : (s.openTx h).errCode = s.errCode := rfl
@[simp] theorem openTx_errTp (h : List Byte) : (s.openTx h).errTp = s.errTp := rfl
@[simp] theorem openTx_errCause (h : List Byte) : (s.openTx h).errCause = s.errCause := rfl
@[simp] theorem openTx_crcr (h : List Byte) : (s.openTx h).crcr = s.crcr := rfl
@[simp] theorem openTx_crcx (h : List Byte) : (s.openTx h).crcx = s.crcx := rfl
@[simp] theorem openTx_txst (h : List Byte) : (s.openTx h).txst = .open := rfl
@[simp] theorem openTx_rxValid (h : List Byte) : (s.openTx h).rxValid = s.rxValid := rfl
@[simp] theorem openTx_payValid (h : List Byte) : (s.openTx h).payValid = s.payValid := rfl
@[simp] theorem openTx_payLen (h : List Byte) : (s.openTx h).payLen = s.payLen := rfl
@[simp] theorem openTx_outKind (h : List Byte) : (s.openTx h).outKind = s.outKind := rfl
@[simp] theorem openTx_mem (h : List Byte) : (s.openTx h).mem = s.mem.putTx h := rfl
@[simp] theorem openTx_inbox (h : List Byte) : (s.openTx h).inbox = s.inbox := rfl
@[simp] theorem openTx_trace (h : List Byte) : (s.openTx h).trace = s.trace := rfl
@[simp] theorem openTx_replies (h : List Byte) : (s.openTx h).replies = s.replies := rfl

/-! ### `sealTx` -/

@[simp] theorem sealTx_opSlave (h : List Byte) : (s.sealTx h).opSlave = s.opSlave := rfl
@[simp] theorem sealTx_opFunc (h : List Byte) : (s.sealTx h).opFunc = s.opFunc := rfl
@[simp] theorem sealTx_opF1 (h : List Byte) : (s.sealTx h).opF1 = s.opF1 := rfl
@[simp] theorem sealTx_opF2 (h : List Byte) : (s.sealTx h).opF2 = s.opF2 := rfl
@[simp] theorem sealTx_opRetry (h : List Byte) : (s.sealTx h).opRetry = s.opRetry := rfl
@[simp] theorem sealTx_opCtrl (h : List Byte) : (s.sealTx h).opCtrl = s.opCtrl := rfl
@[simp] theorem sealTx_cfgDefaultRetry (h : List Byte) : (s.sealTx h).cfgDefaultRetry = s.cfgDefaultRetry := rfl
@[simp] theorem sealTx_cfgRespTimeout (h : List Byte) : (s.sealTx h).cfgRespTimeout = s.cfgRespTimeout := rfl
@[simp] theorem sealTx_cfgQueueTimeout (h : List Byte) : (s.sealTx h).cfgQueueTimeout = s.cfgQueueTimeout := rfl
@[simp] theorem sealTx_phase (h : List Byte) : (s.sealTx h).phase = s.phase := rfl
@[simp] theorem sealTx_st (h : List Byte) : (s.sealTx h).st = s.st := rfl
@[simp] theorem sealTx_curCmd (h : List Byte) : (s.sealTx h).curCmd = s.curCmd := rfl
@[simp] theorem sealTx_rcState (h : List Byte) : (s.sealTx h).rcState = s.rcState := rfl
@[simp] theorem sealTx_remaining (h : List Byte) : (s.sealTx h).remaining = s.remaining := rfl
@[simp] theorem sealTx_attempts (h : List Byte) : (s.sealTx h).attempts = s.attempts := rfl
@[simp] theorem sealTx_rcN (h : List Byte) : (s.sealTx h).rcN = s.rcN := rfl
@[simp] theorem sealTx_ctxSlave (h : List Byte) : (s.sealTx h).ctxSlave = s.ctxSlave := rfl
@[simp] theorem sealTx_ctxReg (h : List Byte) : (s.sealTx h).ctxReg = s.ctxReg := rfl
@[simp] theorem sealTx_ctxValue (h : List Byte) : (s.sealTx h).ctxValue = s.ctxValue := rfl
@[simp] theorem sealTx_errCode (h : List Byte) : (s.sealTx h).errCode = s.errCode := rfl
@[simp] theorem sealTx_errTp (h : List Byte) : (s.sealTx h).errTp = s.errTp := rfl
@[simp] theorem sealTx_errCause (h : List Byte) : (s.sealTx h).errCause = s.errCause := rfl
@[simp] theorem sealTx_crcr (h : List Byte) : (s.sealTx h).crcr = crc16 h := rfl
@[simp] theorem sealTx_crcx (h : List Byte) : (s.sealTx h).crcx = s.crcx := rfl
@[simp] theorem sealTx_txst (h : List Byte) : (s.sealTx h).txst = .sealed := rfl
@[simp] theorem sealTx_rxValid (h : List Byte) : (s.sealTx h).rxValid = s.rxValid := rfl
@[simp] theorem sealTx_payValid (h : List Byte) : (s.sealTx h).payValid = s.payValid := rfl
@[simp] theorem sealTx_payLen (h : List Byte) : (s.sealTx h).payLen = s.payLen := rfl
@[simp] theorem sealTx_outKind (h : List Byte) : (s.sealTx h).outKind = s.outKind := rfl
@[simp] theorem sealTx_mem (h : List Byte) : (s.sealTx h).mem = s.mem.putTx (appendTrailer h) := rfl
@[simp] theorem sealTx_inbox (h : List Byte) : (s.sealTx h).inbox = s.inbox := rfl
@[simp] theorem sealTx_trace (h : List Byte) : (s.sealTx h).trace = s.trace := rfl
@[simp] theorem sealTx_replies (h : List Byte) : (s.sealTx h).replies = s.replies := rfl

/-! ### `submit` -/

@[simp] theorem submit_opSlave : (s.submit).opSlave = s.opSlave := rfl
@[simp] theorem submit_opFunc : (s.submit).opFunc = s.opFunc := rfl
@[simp] theorem submit_opF1 : (s.submit).opF1 = s.opF1 := rfl
@[simp] theorem submit_opF2 : (s.submit).opF2 = s.opF2 := rfl
@[simp] theorem submit_opRetry : (s.submit).opRetry = s.opRetry := rfl
@[simp] theorem submit_opCtrl : (s.submit).opCtrl = s.opCtrl := rfl
@[simp] theorem submit_cfgDefaultRetry : (s.submit).cfgDefaultRetry = s.cfgDefaultRetry := rfl
@[simp] theorem submit_cfgRespTimeout : (s.submit).cfgRespTimeout = s.cfgRespTimeout := rfl
@[simp] theorem submit_cfgQueueTimeout : (s.submit).cfgQueueTimeout = s.cfgQueueTimeout := rfl
@[simp] theorem submit_phase : (s.submit).phase = .await := rfl
@[simp] theorem submit_st : (s.submit).st = s.st := rfl
@[simp] theorem submit_curCmd : (s.submit).curCmd = s.curCmd := rfl
@[simp] theorem submit_rcState : (s.submit).rcState = s.rcState := rfl
@[simp] theorem submit_remaining : (s.submit).remaining = s.remaining := rfl
@[simp] theorem submit_attempts : (s.submit).attempts = s.attempts := rfl
@[simp] theorem submit_rcN : (s.submit).rcN = s.rcN := rfl
@[simp] theorem submit_ctxSlave : (s.submit).ctxSlave = s.ctxSlave := rfl
@[simp] theorem submit_ctxReg : (s.submit).ctxReg = s.ctxReg := rfl
@[simp] theorem submit_ctxValue : (s.submit).ctxValue = s.ctxValue := rfl
@[simp] theorem submit_errCode : (s.submit).errCode = s.errCode := rfl
@[simp] theorem submit_errTp : (s.submit).errTp = s.errTp := rfl
@[simp] theorem submit_errCause : (s.submit).errCause = s.errCause := rfl
@[simp] theorem submit_crcr : (s.submit).crcr = s.crcr := rfl
@[simp] theorem submit_crcx : (s.submit).crcx = s.crcx := rfl
@[simp] theorem submit_txst : (s.submit).txst = s.txst := rfl
@[simp] theorem submit_rxValid : (s.submit).rxValid = s.rxValid := rfl
@[simp] theorem submit_payValid : (s.submit).payValid = s.payValid := rfl
@[simp] theorem submit_payLen : (s.submit).payLen = s.payLen := rfl
@[simp] theorem submit_outKind : (s.submit).outKind = s.outKind := rfl
@[simp] theorem submit_mem : (s.submit).mem = s.mem := rfl
@[simp] theorem submit_inbox : (s.submit).inbox = s.inbox := rfl
@[simp] theorem submit_trace : (s.submit).trace = s.trace ++ [.tpSubmit s.mem.txbuf] := rfl
@[simp] theorem submit_replies : (s.submit).replies = s.replies := rfl

/-! ### `putOut` -/

@[simp] theorem putOut_opSlave (kind : BitVec 4) (elems : List Word) : (s.putOut kind elems).opSlave = s.opSlave := rfl
@[simp] theorem putOut_opFunc (kind : BitVec 4) (elems : List Word) : (s.putOut kind elems).opFunc = s.opFunc := rfl
@[simp] theorem putOut_opF1 (kind : BitVec 4) (elems : List Word) : (s.putOut kind elems).opF1 = s.opF1 := rfl
@[simp] theorem putOut_opF2 (kind : BitVec 4) (elems : List Word) : (s.putOut kind elems).opF2 = s.opF2 := rfl
@[simp] theorem putOut_opRetry (kind : BitVec 4) (elems : List Word) : (s.putOut kind elems).opRetry = s.opRetry := rfl
@[simp] theorem putOut_opCtrl (kind : BitVec 4) (elems : List Word) : (s.putOut kind elems).opCtrl = s.opCtrl := rfl
@[simp] theorem putOut_cfgDefaultRetry (kind : BitVec 4) (elems : List Word) :
    (s.putOut kind elems).cfgDefaultRetry = s.cfgDefaultRetry := rfl
@[simp] theorem putOut_cfgRespTimeout (kind : BitVec 4) (elems : List Word) :
    (s.putOut kind elems).cfgRespTimeout = s.cfgRespTimeout := rfl
@[simp] theorem putOut_cfgQueueTimeout (kind : BitVec 4) (elems : List Word) :
    (s.putOut kind elems).cfgQueueTimeout = s.cfgQueueTimeout := rfl
@[simp] theorem putOut_phase (kind : BitVec 4) (elems : List Word) : (s.putOut kind elems).phase = s.phase := rfl
@[simp] theorem putOut_st (kind : BitVec 4) (elems : List Word) : (s.putOut kind elems).st = s.st := rfl
@[simp] theorem putOut_curCmd (kind : BitVec 4) (elems : List Word) : (s.putOut kind elems).curCmd = s.curCmd := rfl
@[simp] theorem putOut_rcState (kind : BitVec 4) (elems : List Word) : (s.putOut kind elems).rcState = s.rcState := rfl
@[simp] theorem putOut_remaining (kind : BitVec 4) (elems : List Word) :
    (s.putOut kind elems).remaining = s.remaining := rfl
@[simp] theorem putOut_attempts (kind : BitVec 4) (elems : List Word) :
    (s.putOut kind elems).attempts = s.attempts := rfl
@[simp] theorem putOut_rcN (kind : BitVec 4) (elems : List Word) : (s.putOut kind elems).rcN = s.rcN := rfl
@[simp] theorem putOut_ctxSlave (kind : BitVec 4) (elems : List Word) :
    (s.putOut kind elems).ctxSlave = s.ctxSlave := rfl
@[simp] theorem putOut_ctxReg (kind : BitVec 4) (elems : List Word) : (s.putOut kind elems).ctxReg = s.ctxReg := rfl
@[simp] theorem putOut_ctxValue (kind : BitVec 4) (elems : List Word) :
    (s.putOut kind elems).ctxValue = s.ctxValue := rfl
@[simp] theorem putOut_errCode (kind : BitVec 4) (elems : List Word) : (s.putOut kind elems).errCode = s.errCode := rfl
@[simp] theorem putOut_errTp (kind : BitVec 4) (elems : List Word) : (s.putOut kind elems).errTp = s.errTp := rfl
@[simp] theorem putOut_errCause (kind : BitVec 4) (elems : List Word) :
    (s.putOut kind elems).errCause = s.errCause := rfl
@[simp] theorem putOut_crcr (kind : BitVec 4) (elems : List Word) : (s.putOut kind elems).crcr = s.crcr := rfl
@[simp] theorem putOut_crcx (kind : BitVec 4) (elems : List Word) : (s.putOut kind elems).crcx = s.crcx := rfl
@[simp] theorem putOut_txst (kind : BitVec 4) (elems : List Word) : (s.putOut kind elems).txst = s.txst := rfl
@[simp] theorem putOut_rxValid (kind : BitVec 4) (elems : List Word) : (s.putOut kind elems).rxValid = s.rxValid := rfl
@[simp] theorem putOut_payValid (kind : BitVec 4) (elems : List Word) :
    (s.putOut kind elems).payValid = s.payValid := rfl
@[simp] theorem putOut_payLen (kind : BitVec 4) (elems : List Word) : (s.putOut kind elems).payLen = s.payLen := rfl
@[simp] theorem putOut_outKind (kind : BitVec 4) (elems : List Word) : (s.putOut kind elems).outKind = kind := rfl
@[simp] theorem putOut_mem (kind : BitVec 4) (elems : List Word) : (s.putOut kind elems).mem = s.mem.putOut elems := rfl
@[simp] theorem putOut_inbox (kind : BitVec 4) (elems : List Word) : (s.putOut kind elems).inbox = s.inbox := rfl
@[simp] theorem putOut_trace (kind : BitVec 4) (elems : List Word) : (s.putOut kind elems).trace = s.trace := rfl
@[simp] theorem putOut_replies (kind : BitVec 4) (elems : List Word) : (s.putOut kind elems).replies = s.replies := rfl

/-! ### `loadRetry` -/

@[simp] theorem loadRetry_opSlave : (s.loadRetry).opSlave = s.opSlave := rfl
@[simp] theorem loadRetry_opFunc : (s.loadRetry).opFunc = s.opFunc := rfl
@[simp] theorem loadRetry_opF1 : (s.loadRetry).opF1 = s.opF1 := rfl
@[simp] theorem loadRetry_opF2 : (s.loadRetry).opF2 = s.opF2 := rfl
@[simp] theorem loadRetry_opRetry : (s.loadRetry).opRetry = s.opRetry := rfl
@[simp] theorem loadRetry_opCtrl : (s.loadRetry).opCtrl = s.opCtrl := rfl
@[simp] theorem loadRetry_cfgDefaultRetry : (s.loadRetry).cfgDefaultRetry = s.cfgDefaultRetry := rfl
@[simp] theorem loadRetry_cfgRespTimeout : (s.loadRetry).cfgRespTimeout = s.cfgRespTimeout := rfl
@[simp] theorem loadRetry_cfgQueueTimeout : (s.loadRetry).cfgQueueTimeout = s.cfgQueueTimeout := rfl
@[simp] theorem loadRetry_phase : (s.loadRetry).phase = s.phase := rfl
@[simp] theorem loadRetry_st : (s.loadRetry).st = s.st := rfl
@[simp] theorem loadRetry_curCmd : (s.loadRetry).curCmd = s.curCmd := rfl
@[simp] theorem loadRetry_rcState : (s.loadRetry).rcState = .attempting := rfl
@[simp] theorem loadRetry_remaining : (s.loadRetry).remaining = s.retryCount := rfl
@[simp] theorem loadRetry_attempts : (s.loadRetry).attempts = 0 := rfl
@[simp] theorem loadRetry_rcN : (s.loadRetry).rcN = s.retryCount := rfl
@[simp] theorem loadRetry_ctxSlave : (s.loadRetry).ctxSlave = s.opSlave := rfl
@[simp] theorem loadRetry_ctxReg : (s.loadRetry).ctxReg = s.opF1 := rfl
@[simp] theorem loadRetry_ctxValue : (s.loadRetry).ctxValue = s.opF2 := rfl
@[simp] theorem loadRetry_errCode : (s.loadRetry).errCode = s.errCode := rfl
@[simp] theorem loadRetry_errTp : (s.loadRetry).errTp = s.errTp := rfl
@[simp] theorem loadRetry_errCause : (s.loadRetry).errCause = s.errCause := rfl
@[simp] theorem loadRetry_crcr : (s.loadRetry).crcr = s.crcr := rfl
@[simp] theorem loadRetry_crcx : (s.loadRetry).crcx = s.crcx := rfl
@[simp] theorem loadRetry_txst : (s.loadRetry).txst = s.txst := rfl
@[simp] theorem loadRetry_rxValid : (s.loadRetry).rxValid = s.rxValid := rfl
@[simp] theorem loadRetry_payValid : (s.loadRetry).payValid = s.payValid := rfl
@[simp] theorem loadRetry_payLen : (s.loadRetry).payLen = s.payLen := rfl
@[simp] theorem loadRetry_outKind : (s.loadRetry).outKind = s.outKind := rfl
@[simp] theorem loadRetry_mem : (s.loadRetry).mem = s.mem := rfl
@[simp] theorem loadRetry_inbox : (s.loadRetry).inbox = s.inbox := rfl
@[simp] theorem loadRetry_trace : (s.loadRetry).trace = s.trace := rfl
@[simp] theorem loadRetry_replies : (s.loadRetry).replies = s.replies := rfl

end

end Sys2Proof.Machine.State

namespace Sys2Proof.Machine.Memory

section

variable (m : Memory)

@[simp] theorem putTx_txbuf (b : List Byte) : (m.putTx b).txbuf = b := rfl
@[simp] theorem putTx_rxbuf (b : List Byte) : (m.putTx b).rxbuf = m.rxbuf := rfl
@[simp] theorem putTx_valbuf (b : List Byte) : (m.putTx b).valbuf = m.valbuf := rfl
@[simp] theorem putTx_outbuf (b : List Byte) : (m.putTx b).outbuf = m.outbuf := rfl
@[simp] theorem putRx_txbuf (b : List Byte) : (m.putRx b).txbuf = m.txbuf := rfl
@[simp] theorem putRx_rxbuf (b : List Byte) : (m.putRx b).rxbuf = b := rfl
@[simp] theorem putRx_valbuf (b : List Byte) : (m.putRx b).valbuf = m.valbuf := rfl
@[simp] theorem putRx_outbuf (b : List Byte) : (m.putRx b).outbuf = m.outbuf := rfl
@[simp] theorem putVal_txbuf (b : List Half) : (m.putVal b).txbuf = m.txbuf := rfl
@[simp] theorem putVal_rxbuf (b : List Half) : (m.putVal b).rxbuf = m.rxbuf := rfl
@[simp] theorem putVal_valbuf (b : List Half) : (m.putVal b).valbuf = b := rfl
@[simp] theorem putVal_outbuf (b : List Half) : (m.putVal b).outbuf = m.outbuf := rfl
@[simp] theorem putOut_txbuf (b : List Word) : (m.putOut b).txbuf = m.txbuf := rfl
@[simp] theorem putOut_rxbuf (b : List Word) : (m.putOut b).rxbuf = m.rxbuf := rfl
@[simp] theorem putOut_valbuf (b : List Word) : (m.putOut b).valbuf = m.valbuf := rfl
@[simp] theorem putOut_outbuf (b : List Word) : (m.putOut b).outbuf = b := rfl

end

end Sys2Proof.Machine.Memory
end

