-- ==== Sys2Proof/Laws/Memory.lean ====
section
/-! SUPPORT. The buffers' capacities (R40, R32 e): the buffers after reset keep them, and so does every write of a sequence that
fits. -/

namespace Sys2Proof.Machine

theorem Memory.wf_iff (m : Memory) :
    m.wf = true ↔ m.txbuf.length ≤ 263 ∧ m.rxbuf.length ≤ 263 ∧ m.valbuf.length ≤ 127 ∧ m.outbuf.length ≤ 258 := by
  simp [Memory.wf, Config.frameMax, Config.valMax, Config.outMax, and_assoc]

theorem reset_memory_wf : State.reset.mem.wf = true := by decide

theorem Memory.putTx_wf {m : Memory} {b : List Byte} (h : m.wf = true) (hb : b.length ≤ 263) : (m.putTx b).wf = true := by
  rw [Memory.wf_iff] at h ⊢
  exact ⟨hb, h.2⟩

theorem Memory.putRx_wf {m : Memory} {b : List Byte} (h : m.wf = true) (hb : b.length ≤ 263) : (m.putRx b).wf = true := by
  rw [Memory.wf_iff] at h ⊢
  exact ⟨h.1, hb, h.2.2⟩

theorem Memory.putVal_wf {m : Memory} {b : List Half} (h : m.wf = true) (hb : b.length ≤ 127) : (m.putVal b).wf = true := by
  rw [Memory.wf_iff] at h ⊢
  exact ⟨h.1, h.2.1, hb, h.2.2.2⟩

theorem Memory.putOut_wf {m : Memory} {b : List Word} (h : m.wf = true) (hb : b.length ≤ 258) : (m.putOut b).wf = true := by
  rw [Memory.wf_iff] at h ⊢
  exact ⟨h.1, h.2.1, h.2.2.1, hb⟩

end Sys2Proof.Machine
end

