-- ==== Sys2Proof/Laws/Operands.lean ====
section
/-! SUPPORT. The DataType tags, the number of elements a payload gives, the retry budget's decrement, and what an invariant of
R32 looks at. -/

namespace Sys2Proof.Machine

@[simp] theorem DataType.ofTag_tag (d : DataType) : DataType.ofTag d.tag = some d := by cases d <;> rfl

/-- 6 and 7 are the reserved tags (R72). -/
theorem DataType.ofTag_reserved {t : BitVec 3} (h : 5 < t.toNat) : DataType.ofTag t = none := by
  have := t.isLt
  unfold DataType.ofTag
  split <;> first | omega | rfl

theorem dtype_cases (t : BitVec 3) : 5 < t.toNat ∨ ∃ d : DataType, t = d.tag := by
  by_cases h : 5 < t.toNat
  · exact .inl h
  · have hs : ∀ t : BitVec 3, ¬5 < t.toNat → t = 0 ∨ t = 1 ∨ t = 2 ∨ t = 3 ∨ t = 4 ∨ t = 5 := by decide
    obtain rfl | rfl | rfl | rfl | rfl | rfl := hs t h
    exacts [.inr ⟨.u16, rfl⟩, .inr ⟨.s16, rfl⟩, .inr ⟨.u32, rfl⟩, .inr ⟨.s32, rfl⟩, .inr ⟨.f32, rfl⟩, .inr ⟨.raw, rfl⟩]

theorem length_words16 : ∀ p : List Byte, (words16 p).length = p.length / 2
  | [] => rfl
  | [_] => by simp [words16]
  | _ :: _ :: r => by simp [words16, length_words16 r]; omega

theorem length_words32 : ∀ p : List Byte, (words32 p).length = p.length / 4
  | [] => rfl
  | [_] => by simp [words32]
  | [_, _] => by simp [words32]
  | [_, _, _] => by simp [words32]
  | _ :: _ :: _ :: _ :: r => by simp [words32, length_words32 r]; omega

/-- No tag gives more elements than bytes: OUT_COUNT <= OUT_MAX (R32 e). -/
theorem DataType.length_elements_le (d : DataType) (p : List Byte) : (d.elements p).length ≤ p.length := by
  cases d <;> simp [DataType.elements, length_words16, length_words32] <;> omega

/-- A positive budget is decremented without wrap (R22). -/
theorem toInt_sub_one {m : Half} (h : 0 < m.toInt) : (m - 1).toInt = m.toInt - 1 := by
  have := m.toInt_lt
  rw [BitVec.toInt_sub]
  simp [Int.bmod]
  omega

/-- The invariants of R32 look at no other field than these. -/
theorem State.inv_congr {s t : State} (h : s.Inv) (hmem : t.mem = s.mem) (htxst : t.txst = s.txst)
    (hrx : t.rxValid = s.rxValid) (hpay : t.payValid = s.payValid) (hlen : t.payLen = s.payLen)
    (hphase : t.phase = s.phase) (hcmd : t.curCmd = s.curCmd) (hst : t.st = s.st) (hrc : t.rcState = s.rcState)
    (hrem : t.remaining = s.remaining) (hatt : t.attempts = s.attempts) (hn : t.rcN = s.rcN)
    (herr : t.errCode = s.errCode) : t.Inv := by
  simpa only [State.Inv, State.PayloadOk, State.ReceivedOk, State.EmptyOk, State.SealedOk, State.LengthsOk, State.AwaitOk,
    State.AttemptingOk, State.ErrorOk, State.txlen, State.rxlen, hmem, htxst, hrx, hpay, hlen, hphase, hcmd, hst, hrc,
    hrem, hatt, hn, herr] using h

end Sys2Proof.Machine
end

