-- ==== Sys2Proof/Laws/Ops.lean ====
section
/-! SUPPORT. What each shared operation can do, said once: the lemmas that later proofs cite instead of unfolding it. -/

namespace Sys2Proof.Machine

/-! ### Commands -/

theorem command_idle {s : State} {c : BitVec 4} {body : State → State} (h : s.phase = .idle) :
    s.command c body = body (s.accept c) := by
  simp [State.command, h]

theorem command_await {s : State} {c : BitVec 4} {body : State → State} (h : s.phase = .await) :
    s.command c body = s.emit .cmdReject := by
  simp [State.command, h]

/-! ### Validation -/

theorem validate_ok_iff {f : List Byte} : validate f = .ok ↔ 2 ≤ f.length ∧ bodyCrc f = foundCrc f := by
  unfold validate
  split
  · simp; omega
  · split
    · simp_all; omega
    · simp_all

theorem validate_mismatch_iff {f : List Byte} :
    validate f = .crcMismatch ↔ (2 ≤ f.length → bodyCrc f ≠ foundCrc f) := by
  unfold validate
  split
  · simp; omega
  · split
    · simp_all
    · simp_all

/-- A validation is one of: nothing computed, agreement, disagreement (R118). -/
theorem judgeRx_cases (s : State) :
    (s.mem.rxbuf.length < 2 ∧ s.judgeRx = { s with rxValid := false, payValid := false }) ∨
    (2 ≤ s.mem.rxbuf.length ∧ bodyCrc s.mem.rxbuf = foundCrc s.mem.rxbuf ∧
      s.judgeRx = { s with
        crcr := bodyCrc s.mem.rxbuf, crcx := foundCrc s.mem.rxbuf, rxValid := true }) ∨
    (2 ≤ s.mem.rxbuf.length ∧ bodyCrc s.mem.rxbuf ≠ foundCrc s.mem.rxbuf ∧
      s.judgeRx = { s with
        crcr := bodyCrc s.mem.rxbuf, crcx := foundCrc s.mem.rxbuf, rxValid := false, payValid := false }) := by
  unfold State.judgeRx
  split
  · exact .inl ⟨‹_›, rfl⟩
  · split
    · exact .inr (.inl ⟨by omega, ‹_›, rfl⟩)
    · exact .inr (.inr ⟨by omega, ‹_›, rfl⟩)

/-- A receive writes RXBUF, the two flags and, for two bytes or more, the two CRC registers; RX_VALID becomes the verdict
and PAY_VALID is clear (R176). -/
theorem receive_eq (s : State) (bytes : List Byte) :
    s.receive bytes = { s with
      mem := s.mem.putRx bytes
      rxValid := decide (validate bytes = .ok)
      payValid := false
      crcr := if bytes.length < 2 then s.crcr else bodyCrc bytes
      crcx := if bytes.length < 2 then s.crcx else foundCrc bytes } := by
  by_cases h1 : bytes.length < 2
  · simp [State.receive, State.judgeRx, validate, State.clearRxFlags, h1]
  · by_cases h2 : bodyCrc bytes = foundCrc bytes <;>
      simp [State.receive, State.judgeRx, validate, State.clearRxFlags, h1, h2]

/-! ### Strip and decode -/

theorem stripRx_none_iff {s : State} : s.stripRx = none ↔ s.rxlen < 5 := by
  unfold State.stripRx
  split <;> simp_all

theorem stripRx_some {s t : State} (h : s.stripRx = some t) :
    5 ≤ s.rxlen ∧ t = { s with payLen := BitVec.ofNat 16 (s.rxlen - 5), payValid := true } := by
  unfold State.stripRx at h
  split at h
  · cases h
  · exact ⟨by omega, by simpa using h.symm⟩

/-- A decode that succeeds writes OUTBUF, OUT_COUNT and OUT_KIND only (R141). -/
theorem decodePayload_ok {s t : State} (h : s.decodePayload = .ok t) :
    (s.opCtrl.xform = true ∧ t = s.putOut 0b1000#4 (s.payload.map zextByte)) ∨
    ∃ d, s.opCtrl.xform = false ∧ s.dataType = some d ∧ s.payLen.toNat % d.width = 0 ∧
      t = s.putOut (d.tag.setWidth 4) (d.elements s.payload) := by
  unfold State.decodePayload at h
  split at h
  · exact .inl ⟨‹_›, by simpa using h.symm⟩
  · split at h
    · cases h
    · split at h
      · cases h
      · exact .inr ⟨_, by simp_all, ‹_›, by simp_all, by simpa using h.symm⟩

/-- A decode fails on a reserved tag or on a length mismatch, in that order, and only without the bypass (R141, R214). -/
theorem decodePayload_error {s : State} {e : ErrCode} (h : s.decodePayload = .error e) :
    s.opCtrl.xform = false ∧
    ((s.dataType = none ∧ e = .preconditionError) ∨
      ∃ d, s.dataType = some d ∧ s.payLen.toNat % d.width ≠ 0 ∧ e = .decodeError) := by
  unfold State.decodePayload at h
  split at h
  · cases h
  · split at h
    · exact ⟨by simp_all, .inl ⟨‹_›, by simpa using h.symm⟩⟩
    · split at h
      · exact ⟨by simp_all, .inr ⟨_, ‹_›, ‹_›, by simpa using h.symm⟩⟩
      · cases h

/-! ### The retry loop -/

/-- The guard goes one of two ways (R153). -/
theorem retryHead_cases (s : State) :
    (s.remaining.toInt ≤ 0 ∧ s.retryHead = s.exhaust) ∨ (0 < s.remaining.toInt ∧ s.retryHead = s.startAttempt) := by
  unfold State.retryHead
  split
  · exact .inl ⟨‹_›, rfl⟩
  · exact .inr ⟨by omega, rfl⟩

/-- `exhaust` ends the command; TXST becomes SPENT only after an attempt (R160). -/
theorem exhaust_eq (s : State) :
    s.exhaust = { s with
      rcState := .exhausted
      txst := if 0 < s.attempts.toNat then .spent else s.txst
      errCode := .retryLimitExceeded
      st := .err
      phase := .idle
      trace := s.trace ++ [.doneErr] } := by
  unfold State.exhaust
  split <;> simp [State.raise, State.emit, *]

/-- An attempt submits the frame, built first when it is the first attempt (R154). -/
theorem startAttempt_eq (s : State) :
    s.startAttempt = { s.firstBuild with
      attempts := s.attempts + 1
      phase := .await
      trace := s.trace ++ [.tpSubmit s.firstBuild.mem.txbuf] } := by
  unfold State.startAttempt State.submit State.emit State.firstBuild
  split <;> rfl

/-! ### The transport's answer -/

/-- What one `tp_result` can do when it is answered at all (R174, R180). -/
theorem tpResult_next {r : TpResult} {s t : State} (h : tpResult r s = .next t) :
    r.fits = true ∧
    ((s.phase = .idle ∧ t = s) ∨
      (s.phase = .await ∧
        ((s.curCmd = 0x7#4 ∧ t = answerReq r s) ∨ (s.curCmd = 0x8#4 ∧ t = answerRdhr r s) ∨
          (s.curCmd = 0x9#4 ∧ t = answerWrsr r s) ∨ (s.curCmd = 0xA#4 ∧ t = answerReq r s)))) := by
  unfold tpResult at h
  split at h
  case isFalse => cases h
  case isTrue hf =>
    refine ⟨hf, ?_⟩
    split at h
    case h_1 hp => exact .inl ⟨hp, by simpa using h.symm⟩
    case h_2 hp =>
      refine .inr ⟨hp, ?_⟩
      unfold State.answerCommand at h
      split at h
      · exact .inl ⟨BitVec.eq_of_toNat_eq ‹_›, by simpa using h.symm⟩
      · exact .inr (.inl ⟨BitVec.eq_of_toNat_eq ‹_›, by simpa using h.symm⟩)
      · exact .inr (.inr (.inl ⟨BitVec.eq_of_toNat_eq ‹_›, by simpa using h.symm⟩))
      · exact .inr (.inr (.inr ⟨BitVec.eq_of_toNat_eq ‹_›, by simpa [answerWrmr] using h.symm⟩))
      · cases h

theorem tpResult_req {r : TpResult} {s : State} (hf : r.fits = true) (hp : s.phase = .await) (hc : s.curCmd = 0x7#4) :
    tpResult r s = .next (answerReq r s) := by
  simp [tpResult, hf, hp, State.answerCommand, hc]

theorem tpResult_rdhr {r : TpResult} {s : State} (hf : r.fits = true) (hp : s.phase = .await) (hc : s.curCmd = 0x8#4) :
    tpResult r s = .next (answerRdhr r s) := by
  simp [tpResult, hf, hp, State.answerCommand, hc]

theorem tpResult_wrsr {r : TpResult} {s : State} (hf : r.fits = true) (hp : s.phase = .await) (hc : s.curCmd = 0x9#4) :
    tpResult r s = .next (answerWrsr r s) := by
  simp [tpResult, hf, hp, State.answerCommand, hc]

theorem tpResult_wrmr {r : TpResult} {s : State} (hf : r.fits = true) (hp : s.phase = .await) (hc : s.curCmd = 0xA#4) :
    tpResult r s = .next (answerReq r s) := by
  simp [tpResult, hf, hp, State.answerCommand, hc, answerWrmr]

/-! ### The host's transactions -/

/-- A RegWrite is rejected, or it is `putReg` of a writable register (R192). -/
theorem regWrite_cases (index value : Nat) (s : State) :
    regWrite index value s = s.answerHost .rejected ∨
    ∃ r, s.phase = .idle ∧ Reg.ofIndex index = some r ∧ r.writable = true ∧
      regWrite index value s = (s.putReg r value).answerHost .accepted := by
  unfold regWrite
  split
  · exact .inl rfl
  · split
    · exact .inl rfl
    · split
      · exact .inr ⟨_, ‹_›, ‹_›, ‹_›, rfl⟩
      · exact .inl rfl

/-- A BufLoad is rejected, or it is `load` of a sequence that fits (R194). -/
theorem bufLoad_cases (l : Load) (s : State) :
    bufLoad l s = s.answerHost .rejected ∨
    (s.phase = .idle ∧ l.fits = true ∧ bufLoad l s = (s.load l).answerHost .accepted) := by
  unfold bufLoad
  split
  · exact .inl rfl
  · split
    · exact .inr ⟨‹_›, ‹_›, rfl⟩
    · exact .inl rfl

/-- A RegRead only answers the host (R193). -/
theorem regRead_answers (index : Nat) (s : State) : ∃ r, regRead index s = s.answerHost r := by
  unfold regRead
  split <;> exact ⟨_, rfl⟩

/-- A BufRead only answers the host (R195). -/
theorem bufRead_answers (space : Space) (a n : Nat) (s : State) : ∃ r, bufRead space a n s = s.answerHost r := by
  unfold bufRead
  split <;> exact ⟨_, rfl⟩

/-! ### The step -/

/-- What a step that answers a next state did: nothing, or one input delivered. -/
theorem step_next {s t : State} (h : step s = .next t) :
    (s.inbox = [] ∧ t = s) ∨
    ∃ input rest, s.inbox = input :: rest ∧ deliver input { s with inbox := rest } = .next t := by
  unfold step at h
  split at h
  · exact .inl ⟨‹_›, by simpa using h.symm⟩
  · exact .inr ⟨_, _, ‹_›, h⟩

/-- What a word that is answered with a next state did: it decoded, and its instruction ran. -/
theorem runWord_next {fmt : Format} {bytes : List Byte} {s t : State} (h : runWord fmt bytes s = .next t) :
    ∃ i, decode fmt bytes = .ok i ∧ exec i s = .next t := by
  unfold runWord at h
  split at h
  · exact ⟨_, ‹_›, h⟩
  · cases h

end Sys2Proof.Machine
end

