-- ==== Sys2Proof/Laws/PerInstr.lean ====
section
/-! SUPPORT. Statements made per instruction.  Family `EncodedLength`: the encoding of a well-formed instruction is not empty and
fits in a frame buffer (R40, R61, R63, R69). -/

namespace Sys2Proof.Laws.EncodedLength

open Sys2Proof Sys2Proof.Machine

/-- A well-formed instruction is encoded in 1 to FRAME_MAX = 263 bytes. -/
def Statement (i : Instr) : Prop :=
  i.wellFormed = true → 1 ≤ (encode i).2.length ∧ (encode i).2.length ≤ 263

theorem bldf : Statement .bldf := fun _ => by decide
theorem bldv : Statement .bldv := fun _ => by decide
theorem appt : Statement .appt := fun _ => by decide
theorem valt : Statement .valt := fun _ => by decide
theorem strp : Statement .strp := fun _ => by decide
theorem decd : Statement .decd := fun _ => by decide
theorem req : Statement .req := fun _ => by decide
theorem rdhr : Statement .rdhr := fun _ => by decide
theorem wrsr : Statement .wrsr := fun _ => by decide
theorem wrmr : Statement .wrmr := fun _ => by decide
theorem crcg : Statement .crcg := fun _ => by decide
theorem reserved0 : Statement .reserved0 := fun _ => by decide
theorem reservedC : Statement .reservedC := fun _ => by decide
theorem reservedD : Statement .reservedD := fun _ => by decide
theorem reservedE : Statement .reservedE := fun _ => by decide
theorem reservedF : Statement .reservedF := fun _ => by decide
theorem mkfixed : Statement .mkfixed := fun _ => by decide
theorem mkvar : Statement .mkvar := fun _ => by decide

theorem frameFixed (slave func : Byte) (field1 field2 : Half) : Statement (.frameFixed slave func field1 field2) :=
  fun _ => by simp [encode]

theorem frameReadHolding (slave : Byte) (start length : Half) : Statement (.frameReadHolding slave start length) :=
  fun _ => by simp [encode]

theorem frameWriteSingle (slave : Byte) (register value : Half) : Statement (.frameWriteSingle slave register value) :=
  fun _ => by simp [encode]

theorem frameWriteMultiple (slave : Byte) (start : Half) (values : List Half) :
    Statement (.frameWriteMultiple slave start values) := fun h => by
  simp [Instr.wellFormed, encode, Config.valMax] at h ⊢
  omega

theorem frameVar (slave func : Byte) (start : Half) (values : List Half) :
    Statement (.frameVar slave func start values) := fun h => by
  simp [Instr.wellFormed, encode, Config.valMax] at h ⊢
  omega

theorem frameRespRead (slave func byteCount : Byte) (payload : List Byte) :
    Statement (.frameRespRead slave func byteCount payload) := fun h => by
  simp [Instr.wellFormed, encode, Config.frameMax] at h ⊢
  omega

theorem trailer (body : List Byte) (low high : Byte) : Statement (.trailer body low high) := fun h => by
  simp [Instr.wellFormed, encode, Config.frameMax] at h ⊢
  omega

theorem dtypeU16 (retryEn xform : Bool) : Statement (.dtypeU16 retryEn xform) := fun _ => by simp [encode, encodeOpCtrl]
theorem dtypeS16 (retryEn xform : Bool) : Statement (.dtypeS16 retryEn xform) := fun _ => by simp [encode, encodeOpCtrl]
theorem dtypeU32 (retryEn xform : Bool) : Statement (.dtypeU32 retryEn xform) := fun _ => by simp [encode, encodeOpCtrl]
theorem dtypeS32 (retryEn xform : Bool) : Statement (.dtypeS32 retryEn xform) := fun _ => by simp [encode, encodeOpCtrl]
theorem dtypeF32 (retryEn xform : Bool) : Statement (.dtypeF32 retryEn xform) := fun _ => by simp [encode, encodeOpCtrl]
theorem dtypeRaw (retryEn xform : Bool) : Statement (.dtypeRaw retryEn xform) := fun _ => by simp [encode, encodeOpCtrl]

theorem dtypeReserved6 (retryEn xform : Bool) : Statement (.dtypeReserved6 retryEn xform) := fun _ => by
  simp [encode, encodeOpCtrl]

theorem dtypeReserved7 (retryEn xform : Bool) : Statement (.dtypeReserved7 retryEn xform) := fun _ => by
  simp [encode, encodeOpCtrl]

end Sys2Proof.Laws.EncodedLength
end

