-- ==== Sys2Proof/Tests/Slice0.lean ====
section
/-! SUPPORT. The model's own tests: the checks of WellFormed, words written out from the encoding tables of 30_encoding.md, one
step each of the vectors of 95_test_vectors.md (X, V and P are its numbers), and a witness for the hypotheses of every
statement. -/

set_option Elab.async false

namespace Sys2Proof.Tests

open Sys2Proof Sys2Proof.Machine

/-! ### Small states -/

/-- Bytes as the vectors write them. -/
def bytes (l : List Nat) : List Byte := l.map (BitVec.ofNat 8)

/-- The state of a next outcome; a state with a mark (`ERR_TP` = 0xEE) where there is none. -/
def after (o : Host.Outcome State Fault Refusal) : State :=
  match o with
  | .next t => t
  | .fault _ | .refused _ => { State.reset with errTp := 0xEE }

/-- The outcome is a next state. -/
def isNext (o : Host.Outcome State Fault Refusal) : Bool :=
  match o with
  | .next _ => true
  | .fault _ | .refused _ => false

theorem eq_next_after {o : Host.Outcome State Fault Refusal} (h : isNext o = true) : o = .next (after o) := by
  cases o <;> simp_all [isNext, after]

/-- The one input of a host that issues a command. -/
def cmd (code : Nat) : Input := .word .cmd4 [BitVec.ofNat 8 code]

/-- Reset with DEFAULT_RETRY_COUNT = 3, the start state of program P4. -/
def idle : State := { State.reset with cfgDefaultRetry := 3 }

/-- A frame loaded into TXBUF. -/
def withTx (txst : TxState) (l : List Nat) : State := { idle with mem := { idle.mem with txbuf := bytes l }, txst := txst }

/-- A frame loaded into RXBUF, with RX_VALID as given. -/
def withRx (valid : Bool) (l : List Nat) : State := { idle with mem := { idle.mem with rxbuf := bytes l }, rxValid := valid }

/-- A stripped frame and an OP_CTRL value. -/
def withPay (l : List Nat) (ctrl : Nat) : State :=
  { withRx true l with
    payLen := BitVec.ofNat 16 (l.length - 5), payValid := true, opCtrl := OpCtrl.ofNum (BitVec.ofNat 16 ctrl) }

/-- Operands: slave, function, field1, field2, OP_CTRL, OP_RETRY. -/
def withOps (slave func f1 f2 ctrl retry : Nat) : State :=
  { idle with
    opSlave := BitVec.ofNat 8 slave, opFunc := BitVec.ofNat 8 func, opF1 := BitVec.ofNat 16 f1
    opF2 := BitVec.ofNat 16 f2, opCtrl := OpCtrl.ofNum (BitVec.ofNat 16 ctrl), opRetry := BitVec.ofNat 16 retry }

/-- A value list loaded into VALBUF. -/
def withVals (vals : List Half) (s : State) : State := { s with mem := { s.mem with valbuf := vals } }

/-- REQ in flight (V80). -/
def awaitReq : State := after (exec .req (withTx .sealed [0x01, 0x03, 0x00, 0x00, 0x00, 0x0A, 0xC5, 0xCD]))

/-- RDHR in flight (V90 to V95), with OP_CTRL as given. -/
def awaitRdhr (ctrl : Nat) : State := after (exec .rdhr (withOps 1 0 0 1 ctrl 0))

/-- WRSR in flight (V110 to V116), with the count as given. -/
def awaitWrsr (n : Nat) : State := after (exec .wrsr (withOps 1 0 1 3 1 n))

/-- WRMR in flight (V101). -/
def awaitWrmr : State := after (exec .wrmr (withVals [1, 2] (withOps 1 0 0 0 0 0)))

/-! ### WellFormed refuses an ill-formed term of each check -/

theorem test_wellFormed_fixed_row : Instr.wellFormed (.frameFixed 1 0x03 0 0) = false := by decide
theorem test_wellFormed_fixed_row6 : Instr.wellFormed (.frameFixed 1 0x06 0 0) = false := by decide
theorem test_wellFormed_var_row : Instr.wellFormed (.frameVar 1 0x10 0 []) = false := by decide
theorem test_wellFormed_var_count : Instr.wellFormed (.frameVar 1 0x11 0 (List.replicate 128 0)) = false := by decide +kernel
theorem test_wellFormed_multiple_count :
    Instr.wellFormed (.frameWriteMultiple 1 0 (List.replicate 128 0)) = false := by decide +kernel
theorem test_wellFormed_payload : Instr.wellFormed (.frameRespRead 1 3 0 (List.replicate 259 0)) = false := by decide +kernel
theorem test_wellFormed_body : Instr.wellFormed (.trailer (List.replicate 262 0) 0 0) = false := by decide +kernel

/-! ### Decoding: words written out bit by bit -/

/-- R70, R71: the sixteen codes. -/
theorem test_decode_commands :
    [0b0000#8, 0b0001#8, 0b0010#8, 0b0011#8, 0b0100#8, 0b0101#8, 0b0110#8, 0b0111#8, 0b1000#8, 0b1001#8, 0b1010#8,
      0b1011#8, 0b1100#8, 0b1101#8, 0b1110#8, 0b1111#8].map (fun b => decode .cmd4 [b]) =
    [.ok .reserved0, .ok .bldf, .ok .bldv, .ok .appt, .ok .valt, .ok .strp, .ok .decd, .ok .req, .ok .rdhr, .ok .wrsr,
     .ok .wrmr, .ok .crcg, .ok .reservedC, .ok .reservedD, .ok .reservedE, .ok .reservedF] := by decide

/-- R70: the command word is four bits wide. -/
theorem test_decode_command_too_wide : decode .cmd4 [0b00010001#8] = .error .codeTooWide := by decide

/-- R191: BLDF then APPT, BLDV then APPT, and no other pair. -/
theorem test_decode_pseudo :
    decode .pseudo [0b0001#8, 0b0011#8] = .ok .mkfixed ∧ decode .pseudo [0b0010#8, 0b0011#8] = .ok .mkvar ∧
    decode .pseudo [0b0001#8, 0b0010#8] = .error .unknownPseudo := by decide

/-- R61, R67: V2, V3 and V18, address, function, two big-endian fields, trailer low byte first. -/
theorem test_decode_fixed :
    decode .fixed [0b00000001#8, 0b00000011#8, 0b00000000#8, 0b00000000#8, 0b00000000#8, 0b00001010#8, 0b11000101#8,
      0b11001101#8] = .ok (.frameReadHolding 1 0 10) ∧
    decode .fixed [0b00000001#8, 0b00000110#8, 0b00000000#8, 0b00000001#8, 0b00000000#8, 0b00000011#8, 0b10011000#8,
      0b00001011#8] = .ok (.frameWriteSingle 1 1 3) ∧
    decode .fixed [0b00000010#8, 0b10000011#8, 0b00000000#8, 0b00000000#8, 0b00000000#8, 0b00000000#8, 0b01000100#8,
      0b00100111#8] = .ok (.frameFixed 2 0x83 0 0) := by decide +kernel

/-- R61: the high byte of a field comes first (V13). -/
theorem test_decode_fixed_byte_order :
    decode .fixed (bytes [0x11, 0x06, 0x12, 0x34, 0xAB, 0xCD, 0x71, 0x49]) = .ok (.frameWriteSingle 0x11 0x1234 0xABCD) := by
  decide +kernel

/-- R63, R67: X3. -/
theorem test_decode_var :
    decode .var [0b00000001#8, 0b00010000#8, 0b00000000#8, 0b00000000#8, 0b00000000#8, 0b00000010#8, 0b00000100#8,
      0b00000000#8, 0b00000001#8, 0b00000000#8, 0b00000010#8, 0b00100011#8, 0b10101110#8] =
      .ok (.frameWriteMultiple 1 0 [1, 2]) := by decide +kernel

/-- R63: a function code that is no row of its own; the trailer was worked out from R111 outside the model. -/
theorem test_decode_var_other :
    decode .var (bytes [0x0A, 0x11, 0x01, 0x00, 0x00, 0x01, 0x02, 0xDE, 0xAD, 0x9C, 0x71]) =
      .ok (.frameVar 0x0A 0x11 0x0100 [0xDEAD]) := by decide +kernel

/-- R63: byteCount is twice the count. -/
theorem test_decode_var_byte_count :
    decode .var (bytes [0x01, 0x10, 0, 0, 0, 0x02, 0x05, 0, 0x01, 0, 0x02, 0x23, 0xAE]) = .error .badByteCount := by
  decide +kernel

/-- R64: V51's frame. -/
theorem test_decode_respRead :
    decode .respRead [0b00000001#8, 0b00000011#8, 0b00000010#8, 0b11111111#8, 0b11111110#8, 0b01111000#8, 0b00110100#8] =
      .ok (.frameRespRead 1 3 2 [0xFF, 0xFE]) := by decide +kernel

/-- R60, R66: the trailer bytes as found, low byte first (V34). -/
theorem test_decode_trailer :
    decode .anyFrame [0b00000001#8, 0b01111110#8, 0b10000000#8] = .ok (.trailer [0x01] 0x7E 0x80) ∧
    decode .anyFrame (bytes [0, 0]) = .ok (.trailer [] 0 0) ∧ decode .anyFrame (bytes [0x55]) = .error .wrongLength := by
  decide +kernel

/-- R72: DTYPE is OP_CTRL[4:2]; bits 15:5 are dropped.  The value stands low byte first (log entry 20). -/
theorem test_decode_dtype :
    [0b00000000#8, 0b00000100#8, 0b00001000#8, 0b00001100#8, 0b00010000#8, 0b00010100#8, 0b00011000#8, 0b00011100#8].map
      (fun b => decode .opCtrl [b, 0xFF#8]) =
    [.ok (.dtypeU16 false false), .ok (.dtypeS16 false false), .ok (.dtypeU32 false false), .ok (.dtypeS32 false false),
     .ok (.dtypeF32 false false), .ok (.dtypeRaw false false), .ok (.dtypeReserved6 false false),
     .ok (.dtypeReserved7 false false)] := by decide

/-- R16: RETRY_EN is bit 0, XFORM is bit 1. -/
theorem test_decode_dtype_flags :
    decode .opCtrl [0b11100101#8, 0#8] = .ok (.dtypeS16 true false) ∧
    decode .opCtrl [0b00000110#8, 0#8] = .ok (.dtypeS16 false true) := by decide

/-- The table's word of a command, an OP_CTRL value, a pseudo-operation and a whole frame (log entry 7). -/
theorem test_decodeTableWord :
    decodeTableWord 4 0xB = some .crcg ∧ decodeTableWord 8 0x18 = some (.dtypeReserved6 false false) ∧
    decodeTableWord 16 0x0302 = some .mkvar ∧
    decodeTableWord 64 0x0B98030001000601 = some (.frameWriteSingle 1 1 3) := by decide +kernel

/-- `withFetchWord` makes the next step run the word, from reset. -/
theorem test_withFetchWord : (after (step (State.reset.withFetchWord 4 0x1))).curCmd = 0x1#4 := by decide +kernel

/-! ### The commands, one step each -/

/-- V13. -/
theorem test_bldf :
    (after (exec .bldf (withOps 0x11 0x06 0x1234 0xABCD 0 0))).mem.txbuf = bytes [0x11, 0x06, 0x12, 0x34, 0xAB, 0xCD] ∧
    (after (exec .bldf (withOps 0x11 0x06 0x1234 0xABCD 0 0))).txst = .open := by decide +kernel

/-- V22. -/
theorem test_bldv :
    (after (exec .bldv (withVals [0xDEAD, 0xBEEF, 0] (withOps 0x0A 0x10 0x0100 0 0 0)))).mem.txbuf =
      bytes [0x0A, 0x10, 0x01, 0x00, 0x00, 0x03, 0x06, 0xDE, 0xAD, 0xBE, 0xEF, 0x00, 0x00] := by decide +kernel

/-- V13: the trailer, low byte first. -/
theorem test_appt :
    (after (exec .appt (withTx .open [0x11, 0x06, 0x12, 0x34, 0xAB, 0xCD]))).mem.txbuf =
      bytes [0x11, 0x06, 0x12, 0x34, 0xAB, 0xCD, 0x71, 0x49] ∧
    (after (exec .appt (withTx .open [0x11, 0x06, 0x12, 0x34, 0xAB, 0xCD]))).crcr = 0x4971 := by decide +kernel

/-- APPT refusals: a sealed frame stays as it is. -/
theorem test_appt_refused :
    (after (exec .appt (withTx .sealed [0xFF, 0xFF]))).errCode = .preconditionError ∧
    (after (exec .appt (withTx .sealed [0xFF, 0xFF]))).mem.txbuf = bytes [0xFF, 0xFF] := by decide +kernel

/-- V30. -/
theorem test_valt :
    (after (exec .valt (withRx false [0x05, 0x03, 0x04, 0x00, 0x0A, 0x00, 0x14, 0x9F, 0xFE]))).rxValid = true ∧
    (after (exec .valt (withRx false [0x05, 0x03, 0x04, 0x00, 0x0A, 0x00, 0x14, 0x9F, 0xFE]))).crcx = 0xFE9F := by
  decide +kernel

/-- V31. -/
theorem test_valt_mismatch :
    (after (exec .valt (withRx true [0x05, 0x03, 0x04, 0x00, 0x0A, 0x00, 0x15, 0x9F, 0xFE]))).errCode = .crcMismatch ∧
    (after (exec .valt (withRx true [0x05, 0x03, 0x04, 0x00, 0x0A, 0x00, 0x15, 0x9F, 0xFE]))).crcr = 0x3E5E ∧
    (after (exec .valt (withRx true [0x05, 0x03, 0x04, 0x00, 0x0A, 0x00, 0x15, 0x9F, 0xFE]))).rxValid = false := by
  decide +kernel

/-- V41. -/
theorem test_strp :
    (after (exec .strp (withRx true [0x01, 0x03, 0x02, 0xFF, 0xFE, 0x78, 0x34]))).payload = bytes [0xFF, 0xFE] := by
  decide +kernel

/-- V44. -/
theorem test_strp_short : (after (exec .strp (withRx true [0x01, 0x03, 0x40, 0x21]))).errCode = .decodeError := by
  decide +kernel

/-- V52: sign extension. -/
theorem test_decd_s16 :
    (after (exec .decd (withPay [0x01, 0x03, 0x02, 0xFF, 0xFE, 0x78, 0x34] 0x0004))).mem.outbuf = [0xFFFFFFFE] ∧
    (after (exec .decd (withPay [0x01, 0x03, 0x02, 0xFF, 0xFE, 0x78, 0x34] 0x0004))).outKind = 1 := by decide +kernel

/-- V70: the bypass ignores a reserved tag. -/
theorem test_decd_bypass :
    (after (exec .decd (withPay [0x01, 0x03, 0x04, 0x00, 0x0A, 0x00, 0x14, 0xDA, 0x3E] 0x001E))).mem.outbuf =
      [0x00, 0x0A, 0x00, 0x14] ∧
    (after (exec .decd (withPay [0x01, 0x03, 0x04, 0x00, 0x0A, 0x00, 0x14, 0xDA, 0x3E] 0x001E))).outKind = 8 := by
  decide +kernel

/-- V80. -/
theorem test_req :
    awaitReq.trace = [.tpSubmit (bytes [0x01, 0x03, 0x00, 0x00, 0x00, 0x0A, 0xC5, 0xCD])] ∧ awaitReq.status = 0x01 := by
  decide +kernel

/-- V84. -/
theorem test_req_bad_answer :
    (after (tpResult (.ok (bytes [0x01, 0x83, 0x02, 0xC0, 0xF0])) awaitReq)).errCode = .crcMismatch ∧
    (after (tpResult (.ok (bytes [0x01, 0x83, 0x02, 0xC0, 0xF0])) awaitReq)).crcx = 0xF0C0 := by decide +kernel

/-- V90: nothing is submitted. -/
theorem test_rdhr_reserved_tag :
    (awaitRdhr 0x18).errCode = .preconditionError ∧ (awaitRdhr 0x18).trace = [.doneErr] := by decide +kernel

/-- V91. -/
theorem test_rdhr_length_mismatch :
    (after (tpResult (.ok (bytes [0x01, 0x03, 0x02, 0x00, 0x01, 0x79, 0x84])) (awaitRdhr 0x08))).errCode = .decodeError ∧
    (after (tpResult (.ok (bytes [0x01, 0x03, 0x02, 0x00, 0x01, 0x79, 0x84])) (awaitRdhr 0x08))).payLen = 2 := by
  decide +kernel

/-- V111's first step: the request, and the count as REMAINING. -/
theorem test_wrsr :
    (awaitWrsr 1).mem.txbuf = bytes [0x01, 0x06, 0x00, 0x01, 0x00, 0x03, 0x98, 0x0B] ∧ (awaitWrsr 1).remaining = 1 ∧
    (awaitWrsr 1).attempts = 1 := by decide +kernel

/-- V111's second step. -/
theorem test_wrsr_exhausted :
    (after (tpResult (.fail 0x03) (awaitWrsr 1))).errCode = .retryLimitExceeded ∧
    (after (tpResult (.fail 0x03) (awaitWrsr 1))).errCause = .transportError ∧
    (after (tpResult (.fail 0x03) (awaitWrsr 1))).errTp = 0x03 := by decide +kernel

/-- V101. -/
theorem test_wrmr :
    awaitWrmr.mem.txbuf = bytes [0x01, 0x10, 0x00, 0x00, 0x00, 0x02, 0x04, 0x00, 0x01, 0x00, 0x02, 0x23, 0xAE] := by
  decide +kernel

/-- V10 and V11. -/
theorem test_crcg :
    (after (exec .crcg (withTx .open [0x05, 0x03, 0x00, 0x0A, 0x00, 0x02]))).crcr = 0x8DE5 ∧
    (after (exec .crcg (withTx .sealed [0x05, 0x03, 0x00, 0x0A, 0x00, 0x02, 0xE5, 0x8D]))).crcr = 0 := by decide +kernel

/-- V125. -/
theorem test_reserved :
    [Instr.reserved0, .reservedC, .reservedD, .reservedE, .reservedF].map (fun i => ((after (exec i idle)).curCmd,
      (after (exec i idle)).errCode)) =
    [(0x0, .illegalCommand), (0xC, .illegalCommand), (0xD, .illegalCommand), (0xE, .illegalCommand),
     (0xF, .illegalCommand)] := by decide +kernel

/-- X2. -/
theorem test_mkfixed :
    (after (exec .mkfixed (withOps 5 0x03 10 2 0 0))).mem.txbuf = bytes [0x05, 0x03, 0x00, 0x0A, 0x00, 0x02, 0xE5, 0x8D] := by
  decide +kernel

/-- V23. -/
theorem test_mkvar :
    (after (exec .mkvar (withVals [0xFFFF] (withOps 1 0x10 0 0 0 0)))).mem.txbuf =
      bytes [0x01, 0x10, 0x00, 0x00, 0x00, 0x01, 0x02, 0xFF, 0xFF, 0xA7, 0xE0] := by decide +kernel

/-- P2, line 5: the response row answers a read. -/
theorem test_frameRespRead :
    (after (exec (.frameRespRead 5 3 4 [0x00, 0x0A, 0x00, 0x14]) (awaitRdhr 0))).mem.outbuf = [0x0A, 0x14] ∧
    (after (exec (.frameRespRead 5 3 4 [0x00, 0x0A, 0x00, 0x14]) (awaitRdhr 0))).crcr = 0xFE9F := by decide +kernel

/-- V110: the echo of the request ends WRSR. -/
theorem test_frameWriteSingle :
    (after (exec (.frameWriteSingle 1 1 3) (awaitWrsr 1))).rcState = .succeeded ∧
    (after (exec (.frameWriteSingle 1 1 3) (awaitWrsr 1))).crcx = 0x0B98 := by decide +kernel

/-- V101's answer: a FIXED frame with function code 0x10. -/
theorem test_frameFixed :
    (after (exec (.frameFixed 1 0x10 0 2) awaitWrmr)).mem.rxbuf = bytes [0x01, 0x10, 0x00, 0x00, 0x00, 0x02, 0x41, 0xC8] ∧
    (after (exec (.frameFixed 1 0x10 0 2) awaitWrmr)).st = .ok := by decide +kernel

/-- A request frame delivered as an answer is a frame like any other (R65, R73); the bytes are V2's and X3's. -/
theorem test_frame_requests :
    (after (exec (.frameReadHolding 1 0 10) awaitReq)).mem.rxbuf = bytes [0x01, 0x03, 0x00, 0x00, 0x00, 0x0A, 0xC5, 0xCD] ∧
    (after (exec (.frameWriteMultiple 1 0 [1, 2]) awaitReq)).crcr = 0xAE23 ∧
    (after (exec (.frameVar 1 0x11 0 [1, 2]) awaitReq)).rxlen = 13 := by decide +kernel

/-- V83 and V84: the trailer bytes right and wrong. -/
theorem test_trailer :
    (after (exec (.trailer [0x01, 0x83, 0x02] 0xC0 0xF1) awaitReq)).st = .ok ∧
    (after (exec (.trailer [0x01, 0x83, 0x02] 0xC0 0xF0) awaitReq)).errCode = .crcMismatch := by decide +kernel

/-- R16, R72: each DataType row's value as OP_CTRL reads back. -/
theorem test_dtype :
    [Instr.dtypeU16 true false, .dtypeS16 false true, .dtypeU32 true true, .dtypeS32 false false, .dtypeF32 true false,
      .dtypeRaw false true, .dtypeReserved6 true true, .dtypeReserved7 true true].map
      (fun i => (after (exec i idle)).opCtrl.num) =
    [0x0001, 0x0006, 0x000B, 0x000C, 0x0011, 0x0016, 0x001B, 0x001F] := by decide +kernel

/-- V121 and V122; V120. -/
theorem test_regWrite :
    (regWrite 0x10 1 idle).replies = [.rejected] ∧ (regWrite 0x06 1 idle).replies = [.rejected] ∧
    (regRead 0x05 (regWrite 0x05 0xFFFF idle)).replies = [.accepted, .value 0x001F] := by decide +kernel

/-- V124 and V127. -/
theorem test_buffers :
    (bufLoad (.txbuf (List.replicate 262 0)) idle).replies = [.rejected] ∧
    (bufLoad (.rxbuf (List.replicate 264 0)) idle).replies = [.rejected] ∧
    (bufRead .txbuf 0 1 idle).replies = [.rejected] := by decide +kernel

/-! ### Witnesses: the hypotheses of each statement are met -/

/-- A WRSR in flight at its second of two attempts: the last one allowed. -/
def lastAttempt : State := after (tpResult (.fail 0x02) (awaitWrsr 2))

theorem awaitReq_inv : awaitReq.Inv := by
  unfold State.Inv State.PayloadOk State.ReceivedOk State.EmptyOk State.SealedOk State.LengthsOk State.AwaitOk
    State.AttemptingOk State.ErrorOk
  decide +kernel

theorem awaitRdhr_inv : (awaitRdhr 0).Inv := by
  unfold State.Inv State.PayloadOk State.ReceivedOk State.EmptyOk State.SealedOk State.LengthsOk State.AwaitOk
    State.AttemptingOk State.ErrorOk
  decide +kernel

theorem lastAttempt_inv : lastAttempt.Inv := by
  unfold State.Inv State.PayloadOk State.ReceivedOk State.EmptyOk State.SealedOk State.LengthsOk State.AwaitOk
    State.AttemptingOk State.ErrorOk
  decide +kernel

theorem sealed_inv : (withTx .sealed [0xFF, 0xFF]).Inv := by
  unfold State.Inv State.PayloadOk State.ReceivedOk State.EmptyOk State.SealedOk State.LengthsOk State.AwaitOk
    State.AttemptingOk State.ErrorOk
  decide +kernel

theorem awaitReq_linked : awaitReq.Linked := by
  unfold State.Linked State.RetryLink State.ReadLink
  decide +kernel

theorem awaitRdhr_linked : (awaitRdhr 0).Linked := by
  unfold State.Linked State.RetryLink State.ReadLink
  decide +kernel

theorem lastAttempt_linked : lastAttempt.Linked := by
  unfold State.Linked State.RetryLink State.ReadLink
  decide +kernel

theorem inv_inbox {s : State} (l : List Input) (h : s.Inv) : State.Inv { s with inbox := l } := h

theorem linked_inbox {s : State} (l : List Input) (h : s.Linked) : State.Linked { s with inbox := l } := h

/-- In AWAIT with the reset input next. -/
theorem witness_ResetInputFromAnyState : { awaitReq with inbox := [Input.reset, cmd 1] }.inbox = [.reset, cmd 1] ∧
    { awaitReq with inbox := [Input.reset, cmd 1] }.phase = .await := by decide +kernel

/-- A state that meets R32, with the last attempt's failure next. -/
theorem witness_StepKeepsInvariant :
    ∃ t, State.Inv { lastAttempt with inbox := [.tpResult (.fail 1)] } ∧
      step { lastAttempt with inbox := [.tpResult (.fail 1)] } = .next t ∧ t.txst = .spent :=
  ⟨_, inv_inbox _ lastAttempt_inv, eq_next_after (by decide +kernel), by decide +kernel⟩

theorem witness_StepKeepsCommandLinks :
    ∃ t, State.Inv { awaitRdhr 0 with inbox := [cmd 0x1] } ∧ State.Linked { awaitRdhr 0 with inbox := [cmd 0x1] } ∧
      step { awaitRdhr 0 with inbox := [cmd 0x1] } = .next t ∧ t.phase = .await :=
  ⟨_, inv_inbox _ awaitRdhr_inv, linked_inbox _ awaitRdhr_linked, eq_next_after (by decide +kernel), by decide +kernel⟩

/-- With no input, and with an answer of FRAME_MAX bytes. -/
theorem witness_InContractInputCompletes :
    awaitReq.Inv ∧ awaitReq.inbox = [] ∧ (Input.tpResult (.ok (List.replicate 263 0))).inContract = true ∧
      (Input.word .cmd4 [0x0F]).inContract = true :=
  ⟨awaitReq_inv, by decide +kernel, by decide +kernel, by decide +kernel⟩

theorem witness_AwaitIsLeftOnlyByAnswerOrReset :
    ∃ t, { awaitReq with inbox := [cmd 0x1] }.phase = .await ∧ step { awaitReq with inbox := [cmd 0x1] } = .next t ∧
      (cmd 0x1).movesAwait = false :=
  ⟨_, by decide +kernel, eq_next_after (by decide +kernel), by decide +kernel⟩

theorem witness_FailuresAreScopedToTheirCommand : Instr.isCommand .decd = true ∧ idle.phase = .idle := by decide +kernel

theorem witness_CommandsKeepOperandsAndConfiguration :
    ∃ t, Instr.isDtype .wrsr = false ∧ exec .wrsr (withOps 1 0 1 3 1 1) = .next t := ⟨_, rfl, rfl⟩

/-- A frame row under REQ, and under no command. -/
theorem witness_WireFrameRowsFrame :
    ∃ t u, awaitReq.Inv ∧ awaitReq.Linked ∧ Instr.isFrame (.trailer [1] 0x7E 0x80) = true ∧
      exec (.trailer [1] 0x7E 0x80) awaitReq = .next t ∧ awaitReq.curCmd ≠ 0x8#4 ∧ awaitReq.curCmd ≠ 0x9#4 ∧
      exec (.trailer [1] 0x7E 0x80) (withTx .sealed [0xFF, 0xFF]) = .next u ∧
      (withTx .sealed [0xFF, 0xFF]).phase = .idle :=
  ⟨_, _, awaitReq_inv, awaitReq_linked, rfl, eq_next_after (by decide +kernel), by decide +kernel, by decide +kernel,
    eq_next_after (by decide +kernel), rfl⟩

/-- The largest terms of each bounded row. -/
theorem witness_DecodeEncodeRoundTrip :
    Instr.wellFormed (.frameVar 0xFF 0x0F 0xFFFF (List.replicate 127 0xFFFF)) = true ∧
    Instr.wellFormed (.frameWriteMultiple 0 0 (List.replicate 127 0)) = true ∧
    Instr.wellFormed (.frameRespRead 0 0 0 (List.replicate 258 0)) = true ∧
    Instr.wellFormed (.trailer (List.replicate 261 0) 0 0) = true ∧ Instr.wellFormed (.frameFixed 0 0 0 0) = true := by
  decide +kernel

theorem witness_EncodeDecodeRoundTrip :
    decode .opCtrl [0x1F, 0] = .ok (.dtypeReserved7 true true) ∧ (0x1F#8).toNat < 32 ∧
    decode .anyFrame (bytes [0, 0]) = .ok (.trailer [] 0 0) := by decide +kernel

theorem witness_StepRunsDecodedInstruction :
    { idle with inbox := [cmd 0xB] }.inbox = .word .cmd4 [0x0B] :: [] ∧ decode .cmd4 [0x0B] = .ok .crcg := by decide +kernel

theorem witness_FrameRowsAreTransportAnswers : Instr.isFrame (.frameReadHolding 1 0 10) = true := by decide +kernel

theorem witness_CrcBitStepByBits : 15 < 16 ∧ 13 < 16 ∧ 0 < 16 := by decide

theorem witness_CrcAlgebra :
    2 ≤ (bytes [0xFF, 0xFF]).length ∧ validate (bytes [0xFF, 0xFF]) = .ok ∧
    (bytes [1, 2]).length = (bytes [3, 4]).length := by decide +kernel

/-- The last trailer byte of the sealed empty frame. -/
theorem witness_SingleByteChangeIsDetected : (appendTrailer [])[1]? = some 0xFF#8 ∧ 0x01#8 ≠ 0#8 := by decide +kernel

theorem witness_CrcgComputesTheCode :
    idle.phase = .idle ∧ idle.txlen = 0 ∧ (withTx .sealed [0xFF, 0xFF]).Inv ∧ (withTx .sealed [0xFF, 0xFF]).txst = .sealed :=
  ⟨rfl, rfl, sealed_inv, rfl⟩

theorem witness_ApptSealsAnOpenFrame :
    (withTx .open []).phase = .idle ∧ (withTx .open []).txst = .open ∧ (withTx .spent [0xFF, 0xFF]).txst ≠ .open := by
  decide +kernel

/-- One byte, two bytes that agree, two bytes that do not (V33, V34, V35). -/
theorem witness_ValtJudgesTheReceivedFrame :
    idle.phase = .idle ∧ (withRx false [0x55]).rxlen < 2 ∧
    (2 ≤ (withRx false [0xFF, 0xFF]).rxlen ∧ crc16 ((bytes [0xFF, 0xFF]).take 0) = u16le (bytes [0xFF, 0xFF]) 0) ∧
    (2 ≤ (withRx false [0, 0]).rxlen ∧ crc16 ((bytes [0, 0]).take 0) ≠ u16le (bytes [0, 0]) 0) := by decide +kernel

theorem witness_ValidationIsIdempotent :
    ∃ t u v w x y, (withTx .open []).phase = .idle ∧ exec .valt (withTx .open []) = .next t ∧ exec .valt t = .next u ∧
      exec .crcg (withTx .open []) = .next v ∧ exec .crcg v = .next w ∧ (withTx .open []).txst = .open ∧
      exec .appt (withTx .open []) = .next x ∧ exec .appt x = .next y :=
  ⟨_, _, _, _, _, _, rfl, rfl, rfl, rfl, rfl, rfl, rfl, rfl⟩

theorem witness_BldfBuildsTheFixedHeader : idle.phase = .idle := by decide +kernel

/-- V25: the largest value list. -/
theorem witness_BldvBuildsTheVariableHeader :
    (withVals (List.replicate 127 0) idle).phase = .idle ∧ (withVals (List.replicate 127 0) idle).vallen = 127 := by
  decide +kernel

theorem witness_WireFrameLayouts : (List.replicate 127 (5 : Half)).length = 127 ∧
    (List.replicate 127 (5 : Half))[126]? = some 5 := by decide +kernel

theorem witness_PseudoOperationsSealTheirFrame : idle.phase = .idle ∧ awaitReq.phase = .await := by decide +kernel

theorem witness_StripKeepsThePayload : 5 ≤ (bytes [1, 3, 0, 0x20, 0xF0, 0]).length ∧ 0 < (bytes [1, 3, 0, 0x20, 0xF0, 0]).length - 5 := by
  decide +kernel

/-- V45; V44 with four bytes; V42 with five. -/
theorem witness_StrpOpensThePayloadWindow :
    idle.phase = .idle ∧ (withRx false [0]).rxValid = false ∧
    ((withRx true [0x01, 0x03, 0x40, 0x21]).rxValid = true ∧ (withRx true [0x01, 0x03, 0x40, 0x21]).rxlen < 5) ∧
    ((withRx true [0x01, 0x03, 0x00, 0x20, 0xF0]).rxValid = true ∧ 5 ≤ (withRx true [0x01, 0x03, 0x00, 0x20, 0xF0]).rxlen) := by
  decide +kernel

/-- PAY_VALID clear; V71; V69; V63; V51. -/
theorem witness_DecdDecodesThePayload :
    idle.phase = .idle ∧ idle.payValid = false ∧
    ((withPay [1, 3, 3, 0, 1, 2, 0xC5, 0xDF] 0x02).payValid = true ∧
      (withPay [1, 3, 3, 0, 1, 2, 0xC5, 0xDF] 0x02).opCtrl.xform = true) ∧
    ((withPay [1, 3, 4, 0, 0xA, 0, 0x14, 0xDA, 0x3E] 0x18).opCtrl.xform = false ∧
      5 < (withPay [1, 3, 4, 0, 0xA, 0, 0x14, 0xDA, 0x3E] 0x18).opCtrl.dtype.toNat) ∧
    ((withPay [1, 3, 3, 0, 1, 2, 0xC5, 0xDF] 0).opCtrl.dtype = 0#3 ∧
      (withPay [1, 3, 3, 0, 1, 2, 0xC5, 0xDF] 0).payLen.toNat % 2 ≠ 0) ∧
    ((withPay [1, 3, 2, 0xFF, 0xFE, 0x78, 0x34] 0).opCtrl.dtype = 0#3 ∧
      (withPay [1, 3, 2, 0xFF, 0xFE, 0x78, 0x34] 0).payLen.toNat % 2 = 0) ∧
    ((withPay [1, 3, 3, 0, 1, 2, 0xC5, 0xDF] 0x14).opCtrl.dtype = 5#3 ∧
      (withPay [1, 3, 3, 0, 1, 2, 0xC5, 0xDF] 0x14).payLen.toNat % 1 = 0) := by decide +kernel

/-- R138's two examples, 1.0 and 10.0, and an infinity. -/
theorem test_binary32 :
    binary32 0x3F800000#32 = .finite false (1 * 2 ^ 23) (-23) ∧ binary32 0x41200000#32 = .finite false (10 * 2 ^ 20) (-20) ∧
    binary32 0xFF800000#32 = .infinite true := by decide +kernel

/-- A negative and a positive element of each tag (V52, V56 to V60, V62). -/
theorem witness_ElementsOfEveryDataType :
    (bytes [0xFF, 0xFE, 0x7F, 0xFF]).length % DataType.s16.width = 0 ∧
    (DataType.s16.elements (bytes [0xFF, 0xFE, 0x7F, 0xFF]))[0]? = some 0xFFFFFFFE#32 ∧
    (DataType.s16.elements (bytes [0xFF, 0xFE, 0x7F, 0xFF]))[1]? = some 0x00007FFF#32 ∧
    (DataType.u16.elements (bytes [0xFF, 0xFE]))[0]? = some 0x0000FFFE#32 ∧
    (DataType.u32.elements (bytes [0x12, 0x34, 0x56, 0x78]))[0]? = some 0x12345678#32 ∧
    (DataType.s32.elements (bytes [0xFF, 0xFF, 0xFF, 0xFE]))[0]? = some 0xFFFFFFFE#32 ∧
    (DataType.f32.elements (bytes [0x41, 0x20, 0, 0]))[0]? = some 0x41200000#32 ∧
    (DataType.raw.elements (bytes [0, 1, 2]))[2]? = some 2#32 := by decide +kernel

theorem witness_ReqSubmitsASealedFrame :
    (withTx .sealed [0xFF, 0xFF]).phase = .idle ∧ (withTx .sealed [0xFF, 0xFF]).txst = .sealed ∧ idle.txst ≠ .sealed := by
  decide +kernel

theorem witness_TransportFailureEndsTheCommand :
    (awaitReq.phase = .await ∧ awaitReq.curCmd = 0x7#4) ∧ ((awaitRdhr 0).phase = .await ∧ (awaitRdhr 0).curCmd = 0x8#4) ∧
    (awaitWrmr.phase = .await ∧ awaitWrmr.curCmd = 0xA#4) := by decide +kernel

theorem witness_ReceiveStoresThenJudges :
    (bytes [0x55]).length < 2 ∧ (2 ≤ (bytes [0xFF, 0xFF]).length ∧ crc16 [] = u16le (bytes [0xFF, 0xFF]) 0) ∧
    (2 ≤ (bytes [0, 0]).length ∧ crc16 [] ≠ u16le (bytes [0, 0]) 0) := by decide +kernel

/-- V85 and V83; the longest answer. -/
theorem witness_ReqAndWrmrReturnTheResponse :
    awaitReq.phase = .await ∧ awaitReq.curCmd = 0x7#4 ∧ (List.replicate 263 (0 : Byte)).length ≤ 263 ∧
    validate (bytes []) = .crcMismatch ∧ validate (bytes [0x01, 0x83, 0x02, 0xC0, 0xF1]) = .ok := by decide +kernel

theorem witness_UnmatchedAndOversizeAnswers :
    (TpResult.ok (List.replicate 263 0)).fits = true ∧ idle.phase = .idle ∧ 263 < (List.replicate 264 (0 : Byte)).length := by
  decide +kernel

/-- XFORM with a reserved tag; the last tag; the first reserved tag. -/
theorem witness_RdhrSubmitsAReadRequest :
    (withOps 1 0 0 1 0x1E 0).phase = .idle ∧ (withOps 1 0 0 1 0x1E 0).opCtrl.xform = true ∧
    (withOps 1 0 0 1 0x14 0).opCtrl.dtype.toNat ≤ 5 ∧
    ((withOps 1 0 0 1 0x18 0).opCtrl.xform = false ∧ 5 < (withOps 1 0 0 1 0x18 0).opCtrl.dtype.toNat) := by decide +kernel

/-- V94, V92 with four bytes, V93 with five, V91, V50. -/
theorem witness_RdhrCompletion :
    (awaitRdhr 0).phase = .await ∧ (awaitRdhr 0).curCmd = 0x8#4 ∧
    validate (bytes [0x05, 0x03, 0x04, 0x00, 0x0A, 0x00, 0x15, 0x9F, 0xFE]) = .crcMismatch ∧
    (validate (bytes [0x01, 0x03, 0x40, 0x21]) = .ok ∧ (bytes [0x01, 0x03, 0x40, 0x21]).length < 5) ∧
    (validate (bytes [0x01, 0x83, 0x02, 0xC0, 0xF1]) = .ok ∧ 5 ≤ (bytes [0x01, 0x83, 0x02, 0xC0, 0xF1]).length ∧
      (awaitRdhr 2).opCtrl.xform = true) ∧
    (validate (bytes [0x01, 0x03, 0x02, 0x00, 0x01, 0x79, 0x84]) = .ok ∧ (awaitRdhr 8).opCtrl.xform = false ∧
      (awaitRdhr 8).opCtrl.dtype = 2#3 ∧ (7 - 5) % 4 ≠ 0) ∧
    (validate (bytes [0x01, 0x03, 0x04, 0x00, 0x0A, 0x00, 0x14, 0xDA, 0x3E]) = .ok ∧
      (awaitRdhr 0).opCtrl.dtype = 0#3 ∧ (9 - 5) % 2 = 0) := by decide +kernel

theorem witness_WrmrSubmitsAWriteRequest : (withVals (List.replicate 127 0) idle).phase = .idle := by decide +kernel

/-- P7, V101 and V110: a success of each public operation. -/
theorem witness_PublicOperationsEqualTheirPrimitives :
    ((withOps 7 0 0 2 0x10 0).phase = .idle ∧
      (after (tpResult (.ok (bytes [0x07, 0x03, 0x04, 0x41, 0x20, 0, 0, 0x89, 0xC5]))
        (after (exec .rdhr (withOps 7 0 0 2 0x10 0))))).st = .ok) ∧
    (after (tpResult (.ok (bytes [0x01, 0x10, 0, 0, 0, 0x02, 0x41, 0xC8])) awaitWrmr)).st = .ok ∧
    (after (tpResult (.ok (bytes [0x01, 0x06, 0, 0x01, 0, 0x03, 0x98, 0x0B])) (awaitWrsr 1))).st = .ok := by decide +kernel

theorem witness_SubmittedFramesAreTableFrames :
    (withOps 1 0 0 1 0 1).phase = .idle ∧ (withOps 1 0 0 1 0 1).tagUsable = true ∧
    0 < (withOps 1 0 1 3 1 1).retryCount.toInt := by decide +kernel

/-- The counts 1 and 32767, and the default. -/
theorem witness_WrsrStartsItsFirstAttempt :
    (withOps 1 0 1 3 1 1).phase = .idle ∧ 0 < (withOps 1 0 1 3 1 1).retryCount.toInt ∧
    0 < (withOps 1 0 1 3 1 0x7FFF).retryCount.toInt ∧ (withOps 1 0 1 3 0 0).retryCount = 3 := by decide +kernel

/-- The counts 0, -1 and -32768 (V113 to V115). -/
theorem witness_WrsrWithNoBudgetEndsAtOnce :
    (withOps 1 0 1 3 1 0).phase = .idle ∧ (withOps 1 0 1 3 1 0).retryCount.toInt ≤ 0 ∧
    (withOps 1 0 1 3 1 0xFFFF).retryCount.toInt = -1 ∧ (withOps 1 0 1 3 1 0x8000).retryCount.toInt = -32768 := by
  decide +kernel

theorem witness_WrsrSucceedsOnAValidAnswer :
    (awaitWrsr 1).phase = .await ∧ (awaitWrsr 1).curCmd = 0x9#4 ∧
    validate (bytes [0x01, 0x06, 0x00, 0x01, 0x00, 0x03, 0x98, 0x0B]) = .ok := by decide +kernel

/-- The first of two attempts and the last (V112), by a failure and by a bad frame. -/
theorem witness_WrsrRetriesOrExhausts :
    ((awaitWrsr 2).phase = .await ∧ (awaitWrsr 2).curCmd = 0x9#4 ∧ 1 ≤ (awaitWrsr 2).attempts.toNat ∧
      0 < ((awaitWrsr 2).remaining - 1).toInt) ∧
    (lastAttempt.phase = .await ∧ lastAttempt.curCmd = 0x9#4 ∧ 1 ≤ lastAttempt.attempts.toNat ∧
      (lastAttempt.remaining - 1).toInt ≤ 0) ∧
    ((bytes [0x01, 0x06, 0, 0x01, 0, 0x03, 0x98, 0x0A]).length ≤ 263 ∧
      validate (bytes [0x01, 0x06, 0, 0x01, 0, 0x03, 0x98, 0x0A]) = .crcMismatch) := by decide +kernel

/-- P4's answers: a failure, then a bad frame. -/
def failures : List TpResult := [.fail 0x01, .ok (bytes [0x07, 0x06, 0, 0x01, 0, 0xFE, 0x98, 0x2C])]

theorem failures_fail : ∀ r ∈ failures, r.fits = true ∧ ∀ f, r = .ok f → validate f = .crcMismatch := by
  intro r hr
  simp only [failures, List.mem_cons, List.not_mem_nil, or_false] at hr
  obtain rfl | rfl := hr
  · exact ⟨by decide +kernel, fun f h => by cases h⟩
  · exact ⟨by decide +kernel, fun f h => by cases h; decide +kernel⟩

/-- A WRSR with a count of `fs.length` and as many failures, all of them in the script. -/
def failing (fs : List TpResult) : State :=
  { withOps 1 0 1 3 1 fs.length with inbox := cmd 0x9 :: fs.map .tpResult }

/-- A count of zero; and a failure code and a bad frame in one call, the kinds of V112. -/
theorem witness_AlwaysFailingTransportGetsExactlyNAttempts :
    ((failing []).phase = .idle ∧ ([] : List TpResult).length = (failing []).retryCount.toInt.toNat ∧
      (failing []).inbox = .word .cmd4 [0x09#8] :: ([] : List TpResult).map .tpResult) ∧
    (failing failures).phase = .idle ∧ failures.length = (failing failures).retryCount.toInt.toNat ∧
    (∀ r ∈ failures, r.fits = true ∧ ∀ f, r = .ok f → validate f = .crcMismatch) ∧
    (failing failures).inbox = .word .cmd4 [0x09#8] :: failures.map .tpResult :=
  ⟨by decide +kernel, by decide +kernel, by decide +kernel, failures_fail, by decide +kernel⟩

/-- P4: a failure, a bad frame and a good one, with a count of three. -/
theorem witness_FirstSuccessEndsTheRetries :
    idle.phase = .idle ∧ (failures.length : Int) < idle.retryCount.toInt ∧
    (∀ r ∈ failures, r.fits = true ∧ ∀ f, r = .ok f → validate f = .crcMismatch) ∧
    (bytes [0x07, 0x06, 0, 0x01, 0, 0xFF, 0x98, 0x2C]).length ≤ 263 ∧
    validate (bytes [0x07, 0x06, 0, 0x01, 0, 0xFF, 0x98, 0x2C]) = .ok ∧
    { idle with inbox := cmd 0x9 :: (failures.map Input.tpResult ++
        [Input.tpResult (.ok (bytes [0x07, 0x06, 0, 0x01, 0, 0xFF, 0x98, 0x2C]))]) }.inbox =
      .word .cmd4 [0x09#8] :: (failures.map .tpResult ++
        [.tpResult (.ok (bytes [0x07, 0x06, 0, 0x01, 0, 0xFF, 0x98, 0x2C]))]) :=
  ⟨by decide +kernel, by decide +kernel, failures_fail, by decide +kernel, by decide +kernel, by decide +kernel⟩

theorem witness_AttemptMarkerArithmetic :
    lastAttempt.Inv ∧ lastAttempt.RetryLink ∧ lastAttempt.phase = .await ∧ lastAttempt.curCmd = 0x9#4 ∧
      (lastAttempt.logRecord .transportError 2).k = 2 :=
  ⟨lastAttempt_inv, lastAttempt_linked.1, by decide +kernel, by decide +kernel, by decide +kernel⟩

theorem witness_CommandsRaiseOnlyTheirErrors :
    ∃ t u, (exec .appt idle = .next t ∧ t.errCode ≠ .none) ∧ Instr.isCommand .appt = true ∧ idle.phase = .idle ∧
      awaitReq.Inv ∧ awaitReq.Linked ∧ awaitReq.phase = .await ∧
      (tpResult (.fail 2) awaitReq = .next u ∧ u.errCode ≠ .none) :=
  ⟨_, _, ⟨rfl, by decide +kernel⟩, rfl, rfl, awaitReq_inv, awaitReq_linked, by decide +kernel, rfl, by decide +kernel⟩

theorem witness_RefusedCommandsChangeNothingElse :
    ∃ t u, Instr.isCommand .appt = true ∧ idle.phase = .idle ∧ (exec .appt idle = .next t ∧ t.errCode = .preconditionError) ∧
      (exec .reservedC idle = .next u ∧ u.errCode = .illegalCommand) :=
  ⟨_, _, rfl, rfl, ⟨rfl, by decide +kernel⟩, rfl, by decide +kernel⟩

theorem witness_ReservedCodesRaiseIllegalCommand : idle.phase = .idle := by decide +kernel

theorem witness_CommandsAreRejectedWhileAwaiting : Instr.isCommand .rdhr = true ∧ awaitReq.phase = .await := by
  decide +kernel

theorem witness_OneDoneOrOneSubmitPerStep :
    ∃ t u, (Instr.isCommand .bldf = true ∧ idle.phase = .idle ∧ exec .bldf idle = .next t) ∧
      lastAttempt.Inv ∧ lastAttempt.phase = .await ∧ tpResult (.fail 2) lastAttempt = .next u :=
  ⟨_, _, ⟨rfl, rfl, rfl⟩, lastAttempt_inv, by decide +kernel, rfl⟩

/-- R192 at the two ends of each run of RO and of unassigned indexes: rejected, and at the ends of the RW runs: accepted. -/
theorem witness_RegWriteRule :
    awaitReq.phase = .await ∧ idle.phase = .idle ∧
    [0x06, 0x07, 0x0B, 0x0F, 0x10, 0x14, 0x15, 0x17, 0x18, 0x1E, 0x1F, 0x20, 0x29, 0x2A].map
      (fun index => (regWrite index 0 idle).replies) = List.replicate 14 [.rejected] ∧
    [0x00, 0x05, 0x08, 0x0A].map (fun index => (regWrite index 0 idle).replies) = List.replicate 4 [.accepted] := by
  refine ⟨by decide +kernel, by decide +kernel, ?_, ?_⟩ <;> rfl

/-- The two ends of each run of unassigned indexes. -/
theorem witness_RegReadMap :
    [0x06, 0x07, 0x0B, 0x0F, 0x15, 0x17, 0x1F, 0x2A].map Reg.ofIndex = List.replicate 8 none ∧
    [0x05, 0x08, 0x0A, 0x10, 0x14, 0x18, 0x1E, 0x20, 0x29].map Reg.ofIndex =
      [some .opCtrl, some .cfgDefaultRetry, some .cfgQueueTimeout, some .status, some .errCause, some .rcState,
       some .ctxValue, some .crcr, some .vallen] := by decide +kernel

theorem witness_BufLoadRule : awaitReq.phase = .await ∧ idle.phase = .idle := by decide +kernel

/-- The whole of a buffer, its end with no unit, and one unit beyond. -/
theorem witness_BufReadRule :
    0 + 2 ≤ (withTx .sealed [0xFF, 0xFF]).txlen ∧ 2 + 0 ≤ (withTx .sealed [0xFF, 0xFF]).txlen ∧
    (withTx .sealed [0xFF, 0xFF]).validLength .txbuf < 2 + 1 ∧ 0 + 2 ≤ awaitWrmr.vallen ∧
    0 + 1 ≤ (withRx false [0x55]).rxlen ∧
    0 + 1 ≤ (after (exec .decd (withPay [0x01, 0x03, 0x02, 0xFF, 0xFE, 0x78, 0x34] 4))).outCount := by decide +kernel

theorem witness_DataTypeRowsSelectTheTag : idle.phase = .idle ∧ awaitReq.phase = .await := by decide +kernel

theorem witness_FrameRowsAreReceived :
    (awaitReq.phase = .await ∧ awaitReq.curCmd = 0x7#4) ∧ awaitWrmr.curCmd = 0xA#4 ∧
    Instr.isFrame (.frameVar 1 0x11 0 (List.replicate 127 0)) = true ∧
    Instr.wellFormed (.frameVar 1 0x11 0 (List.replicate 127 0)) = true ∧
    ([0xC0#8, 0xF1#8] = le16 (crc16 [0x01, 0x83, 0x02]) ∧ Instr.isFrame (.trailer [0x01, 0x83, 0x02] 0xC0 0xF1) = true) := by
  decide +kernel

end Sys2Proof.Tests
end

section
/-! PROOFS. One step on a given input: the rules by which a proof runs `step` forward (R9, R49, R196). -/

namespace Sys2Proof.Machine

/-- A step delivers the first input of the script to the state that has the rest of it. -/
theorem step_of_inbox_cons {s : State} {input : Input} {rest : List Input} (h : s.inbox = input :: rest) :
    step s = deliver input { s with inbox := rest } := by
  simp only [step, h]

@[simp] theorem deliver_word (fmt : Format) (w : List Byte) (s : State) : deliver (.word fmt w) s = runWord fmt w s := rfl

theorem runWord_of_decode_ok {fmt : Format} {w : List Byte} {i : Instr} (h : decode fmt w = .ok i) (s : State) :
    runWord fmt w s = exec i s := by
  simp only [runWord, h]

/-- Settles O14: the step delivers the word, and a word that decodes runs its instruction. -/
theorem stepRunsDecodedInstruction : Obligations.StepRunsDecodedInstruction := by
  intro s fmt w rest i hinbox hdecode
  calc step s
      = deliver (.word fmt w) { s with inbox := rest } := step_of_inbox_cons hinbox
    _ = runWord fmt w { s with inbox := rest } := deliver_word ..
    _ = exec i { s with inbox := rest } := runWord_of_decode_ok hdecode _

end Sys2Proof.Machine
end

section
/-! PROOFS. The rows of the opcode table by what they do: a command, two commands in sequence, the arrival of a frame, a write of
OP_CTRL (log entries 4 to 6).  Proofs about every instruction split on these four and not on the 33 rows. -/

namespace Sys2Proof.Machine

/-- The body that a command code runs once it is accepted (R70, R71). -/
inductive CommandBody : BitVec 4 → (State → State) → Prop
  | bldf : CommandBody 0x1#4 bldfBody
  | bldv : CommandBody 0x2#4 bldvBody
  | appt : CommandBody 0x3#4 apptBody
  | valt : CommandBody 0x4#4 valtBody
  | strp : CommandBody 0x5#4 strpBody
  | decd : CommandBody 0x6#4 decdBody
  | req : CommandBody 0x7#4 reqBody
  | rdhr : CommandBody 0x8#4 rdhrBody
  | wrsr : CommandBody 0x9#4 wrsrBody
  | wrmr : CommandBody 0xA#4 wrmrBody
  | crcg : CommandBody 0xB#4 crcgBody
  | illegal {c : BitVec 4} (h : c = 0 ∨ 0xC ≤ c.toNat) : CommandBody c illegalBody

/-- What the row `i` does, whatever the state. -/
inductive RowKind (i : Instr) : Prop
  | command {c : BitVec 4} {body : State → State} (fmt : (encode i).1 = .cmd4) (isBody : CommandBody c body)
      (run : ∀ s, exec i s = .next (s.command c body))
  | sequence {c : BitVec 4} {body : State → State} (fmt : (encode i).1 = .pseudo) (isBody : CommandBody c body)
      (run : ∀ s, exec i s = .next ((s.command c body).command 0x3#4 apptBody))
  | frame (isFrame : i.isFrame = true) (run : ∀ s, exec i s = tpResult (.ok (encode i).2) s)
  | dtype {retryEn xform : Bool} {tag : BitVec 3} (fmt : (encode i).1 = .opCtrl)
      (run : ∀ s, exec i s = .next (s.writeOpCtrl retryEn xform tag))

theorem rowKind (i : Instr) : RowKind i := by
  cases i with
  | bldf => exact .command rfl .bldf fun _ => rfl
  | bldv => exact .command rfl .bldv fun _ => rfl
  | appt => exact .command rfl .appt fun _ => rfl
  | valt => exact .command rfl .valt fun _ => rfl
  | strp => exact .command rfl .strp fun _ => rfl
  | decd => exact .command rfl .decd fun _ => rfl
  | req => exact .command rfl .req fun _ => rfl
  | rdhr => exact .command rfl .rdhr fun _ => rfl
  | wrsr => exact .command rfl .wrsr fun _ => rfl
  | wrmr => exact .command rfl .wrmr fun _ => rfl
  | crcg => exact .command rfl .crcg fun _ => rfl
  | reserved0 => exact .command rfl (.illegal (by decide)) fun _ => rfl
  | reservedC => exact .command rfl (.illegal (by decide)) fun _ => rfl
  | reservedD => exact .command rfl (.illegal (by decide)) fun _ => rfl
  | reservedE => exact .command rfl (.illegal (by decide)) fun _ => rfl
  | reservedF => exact .command rfl (.illegal (by decide)) fun _ => rfl
  | mkfixed => exact .sequence rfl .bldf fun _ => rfl
  | mkvar => exact .sequence rfl .bldv fun _ => rfl
  | frameFixed | frameReadHolding | frameWriteSingle | frameWriteMultiple | frameVar | frameRespRead | trailer =>
    exact .frame rfl fun _ => rfl
  | dtypeU16 | dtypeS16 | dtypeU32 | dtypeS32 | dtypeF32 | dtypeRaw | dtypeReserved6 | dtypeReserved7 =>
    exact .dtype rfl fun _ => rfl

end Sys2Proof.Machine
end

section
/-! PROOFS. Clauses (a) to (e) of R32, those about the buffers and their flags: which writes keep them. -/

namespace Sys2Proof.Machine

/-- Clauses (a) to (e) of R32. -/
structure State.BuffersOk (s : State) : Prop where
  payload : s.PayloadOk
  received : s.ReceivedOk
  empty : s.EmptyOk
  trailed : s.SealedOk
  lengths : s.LengthsOk

theorem State.inv_iff {s : State} : s.Inv ↔ s.BuffersOk ∧ s.AwaitOk ∧ s.AttemptingOk ∧ s.ErrorOk :=
  ⟨fun ⟨ha, hb, hc, hd, he, hf, hg, hh⟩ => ⟨⟨ha, hb, hc, hd, he⟩, hf, hg, hh⟩,
    fun ⟨⟨ha, hb, hc, hd, he⟩, hf, hg, hh⟩ => ⟨ha, hb, hc, hd, he, hf, hg, hh⟩⟩

namespace State.BuffersOk

variable {s t : State}

theorem congr (h : s.BuffersOk) (hmem : t.mem = s.mem) (htxst : t.txst = s.txst) (hrx : t.rxValid = s.rxValid)
    (hpay : t.payValid = s.payValid) (hlen : t.payLen = s.payLen) : t.BuffersOk := by
  obtain ⟨ha, hb, hc, hd, he⟩ := h
  constructor <;>
    simpa only [PayloadOk, ReceivedOk, EmptyOk, SealedOk, LengthsOk, txlen, rxlen, hmem, htxst, hrx, hpay, hlen]

theorem rxbuf_length_le (h : s.BuffersOk) : s.mem.rxbuf.length ≤ 263 := ((Memory.wf_iff _).mp h.lengths.1).2.1

theorem valbuf_length_le (h : s.BuffersOk) : s.mem.valbuf.length ≤ 127 := ((Memory.wf_iff _).mp h.lengths.1).2.2.1

/-- A fresh frame leaves room for its trailer (R27, R32 e). -/
theorem openTx (h : s.BuffersOk) {b : List Byte} (hb : b.length ≤ 261) : (s.openTx b).BuffersOk where
  payload := h.payload
  received := h.received
  empty := fun he => nomatch he
  trailed := fun he => by simp at he
  lengths := ⟨Memory.putTx_wf h.lengths.1 (by omega), fun _ => hb⟩

/-- A sealed frame ends with the code of what was sealed (R32 d, R115). -/
theorem sealTx (h : s.BuffersOk) {b : List Byte} (hb : b.length ≤ 261) : (s.sealTx b).BuffersOk where
  payload := h.payload
  received := h.received
  empty := fun he => nomatch he
  trailed := fun _ => by simp [txlen, appendTrailer]
  lengths := ⟨Memory.putTx_wf h.lengths.1 (by simp; omega), fun ho => nomatch ho⟩

/-- The request of a sealed frame ends: its bytes stay (R27, R32 d). -/
theorem spent (h : s.BuffersOk) (hs : s.txst = .sealed) : BuffersOk { s with txst := .spent } where
  payload := h.payload
  received := h.received
  empty := fun he => nomatch he
  trailed := fun _ => h.trailed (.inl hs)
  lengths := ⟨h.lengths.1, fun ho => nomatch ho⟩

/-- A response is stored, and RX_VALID set only when its trailer agrees (R32 a, b, R176). -/
theorem receive (h : s.BuffersOk) {bytes : List Byte} (hb : bytes.length ≤ 263) : (s.receive bytes).BuffersOk := by
  rw [receive_eq]
  exact {
    payload := fun hp => nomatch hp
    received := fun hv => validate_ok_iff.mp (of_decide_eq_true hv)
    empty := h.empty
    trailed := h.trailed
    lengths := ⟨Memory.putRx_wf h.lengths.1 hb, h.lengths.2⟩ }

/-- A validation sets RX_VALID on agreement only, and otherwise closes the payload window (R32 a, b, R118). -/
theorem judgeRx (h : s.BuffersOk) : s.judgeRx.BuffersOk := by
  obtain ⟨-, heq⟩ | ⟨hlen, hagree, heq⟩ | ⟨-, -, heq⟩ := judgeRx_cases s <;> rw [heq]
  · exact ⟨fun hp => (nomatch hp), fun hv => (nomatch hv), h.empty, h.trailed, h.lengths⟩
  · exact ⟨fun hp => ⟨rfl, (h.payload hp).2⟩, fun _ => ⟨hlen, hagree⟩, h.empty, h.trailed, h.lengths⟩
  · exact ⟨fun hp => (nomatch hp), fun hv => (nomatch hv), h.empty, h.trailed, h.lengths⟩

/-- A BufLoad of RXBUF clears both flags (R32 a, b, R194). -/
theorem loadRx (h : s.BuffersOk) {b : List Byte} (hb : b.length ≤ 263) :
    (State.clearRxFlags { s with mem := s.mem.putRx b }).BuffersOk :=
  ⟨fun hp => (nomatch hp), fun hv => (nomatch hv), h.empty, h.trailed, Memory.putRx_wf h.lengths.1 hb, h.lengths.2⟩

theorem loadVal (h : s.BuffersOk) {b : List Half} (hb : b.length ≤ 127) :
    BuffersOk { s with mem := s.mem.putVal b } :=
  ⟨h.payload, h.received, h.empty, h.trailed, Memory.putVal_wf h.lengths.1 hb, h.lengths.2⟩

theorem clearPayValid (h : s.BuffersOk) : BuffersOk { s with payValid := false } :=
  ⟨fun hp => (nomatch hp), h.received, h.empty, h.trailed, h.lengths⟩

/-- The strip of a validated frame opens the window between header and trailer (R32 a, R132). -/
theorem stripRx (h : s.BuffersOk) (hv : s.rxValid = true) (ht : s.stripRx = some t) : t.BuffersOk := by
  obtain ⟨hlen, rfl⟩ := stripRx_some ht
  have hmax : s.rxlen ≤ 263 := h.rxbuf_length_le
  have hpay : (BitVec.ofNat 16 (s.rxlen - 5)).toNat = s.rxlen - 5 := by simp; omega
  exact ⟨fun _ => ⟨hv, hlen, hpay⟩, h.received, h.empty, h.trailed, h.lengths⟩

theorem putOut (h : s.BuffersOk) (kind : BitVec 4) {elems : List Word} (hb : elems.length ≤ 258) :
    (s.putOut kind elems).BuffersOk :=
  ⟨h.payload, h.received, h.empty, h.trailed, Memory.putOut_wf h.lengths.1 hb, h.lengths.2⟩

/-- An open payload window holds at most OUT_MAX bytes: RXLEN - 5 of at most FRAME_MAX (R32 a, e). -/
theorem payload_length_le (h : s.BuffersOk) (hp : s.payValid = true) : s.payload.length ≤ 258 := by
  obtain ⟨-, -, hlen⟩ := h.payload hp
  have hmax : s.rxlen ≤ 263 := h.rxbuf_length_le
  simp only [State.payload, memRead, List.length_take]
  omega

/-- A decode of an open window fits in OUTBUF (R32 e, R141). -/
theorem decodePayload (h : s.BuffersOk) (hp : s.payValid = true) (ht : s.decodePayload = .ok t) : t.BuffersOk := by
  have hlen := h.payload_length_le hp
  obtain ⟨-, rfl⟩ | ⟨d, -, -, -, rfl⟩ := decodePayload_ok ht
  · exact h.putOut _ (by simpa using hlen)
  · exact h.putOut _ ((d.length_elements_le _).trans hlen)

end State.BuffersOk

end Sys2Proof.Machine
end

section
/-! PROOFS. Clauses (f) to (h) of R32: what a command that runs may rely on, and why each way to end or to submit meets the
invariants. -/

namespace Sys2Proof.Machine

namespace State

variable {s t : State}

/-- A state in which a command runs and is no write-single attempt: the acceptance prologue gives it (R196), and so does an
answer to REQ, RDHR or WRMR (R32 f to h). -/
structure Running (s : State) : Prop where
  buffers : s.BuffersOk
  st : s.st = .none
  noError : s.errCode = .none
  notAttempting : s.rcState ≠ .attempting

theorem Running.of_accept (h : s.Inv) (c : BitVec 4) : (s.accept c).Running :=
  ⟨(inv_iff.mp h).1.congr rfl rfl rfl rfl rfl, rfl, rfl, fun hrc => nomatch hrc⟩

/-- In AWAIT no error is recorded (R32 f, h). -/
theorem Inv.errCode_of_await (h : s.Inv) (hp : s.phase = .await) : s.errCode = .none := by
  obtain ⟨-, hawait, -, herror⟩ := inv_iff.mp h
  by_contra hne
  have := herror.mpr hne
  simp [(hawait hp).2.2] at this

theorem Running.of_await (h : s.Inv) (hp : s.phase = .await) (hc : s.curCmd ≠ 0x9#4) : s.Running := by
  obtain ⟨hbuf, hawait, hatt, -⟩ := inv_iff.mp h
  exact ⟨hbuf, (hawait hp).2.2, h.errCode_of_await hp, fun hrc => hc (hatt hrc).1⟩

/-- A write of buffers or flags keeps a running command so when it keeps their clauses. -/
theorem Running.withBuffers (h : s.Running) (hb : t.BuffersOk) (hst : t.st = s.st) (herr : t.errCode = s.errCode)
    (hrc : t.rcState = s.rcState) : t.Running :=
  ⟨hb, hst ▸ h.st, herr ▸ h.noError, hrc ▸ h.notAttempting⟩

theorem Running.endOk_inv (h : s.Running) : s.endOk.Inv :=
  inv_iff.mpr ⟨h.buffers.congr rfl rfl rfl rfl rfl, fun hp => (nomatch hp), fun hrc => absurd hrc h.notAttempting, by
    simp [ErrorOk, h.noError]⟩

theorem Running.raise_inv (h : s.Running) {e : ErrCode} (he : e ≠ .none) : (s.raise e).Inv :=
  inv_iff.mpr ⟨h.buffers.congr rfl rfl rfl rfl rfl, fun hp => (nomatch hp), fun hrc => absurd hrc h.notAttempting, by
    simp [ErrorOk, he]⟩

theorem Running.submit_inv (h : s.Running) (htx : s.txst = .sealed)
    (hc : s.curCmd = 0x7#4 ∨ s.curCmd = 0x8#4 ∨ s.curCmd = 0x9#4 ∨ s.curCmd = 0xA#4) : s.submit.Inv :=
  inv_iff.mpr ⟨h.buffers.congr rfl rfl rfl rfl rfl, fun _ => ⟨hc, htx, h.st⟩, fun hrc => absurd hrc h.notAttempting, by
    simp [ErrorOk, h.st, h.noError]⟩

theorem Running.openTx (h : s.Running) {b : List Byte} (hb : b.length ≤ 261) : (s.openTx b).Running :=
  h.withBuffers (h.buffers.openTx hb) rfl rfl rfl

theorem Running.sealTx (h : s.Running) {b : List Byte} (hb : b.length ≤ 261) : (s.sealTx b).Running :=
  h.withBuffers (h.buffers.sealTx hb) rfl rfl rfl

theorem Running.length_varHeader_le (h : s.Running) (func : Byte) : (s.varHeader func).length ≤ 261 := by
  have := h.buffers.valbuf_length_le
  simp only [varHeader, length_buildVar]
  omega

theorem Running.judgeRx (h : s.Running) : s.judgeRx.Running := by
  refine h.withBuffers h.buffers.judgeRx ?_ ?_ ?_ <;>
    obtain ⟨-, heq⟩ | ⟨-, -, heq⟩ | ⟨-, -, heq⟩ := judgeRx_cases s <;> rw [heq]

theorem Running.stripRx (h : s.Running) (hv : s.rxValid = true) (ht : s.stripRx = some t) : t.Running := by
  have hb := h.buffers.stripRx hv ht
  obtain ⟨-, rfl⟩ := stripRx_some ht
  exact h.withBuffers hb rfl rfl rfl

/-- A decode of an open window ends the command, well or with its error (R141, R187). -/
theorem Running.endDecode_inv (h : s.Running) (hp : s.payValid = true) : s.endDecode.Inv := by
  unfold endDecode
  split
  next t ht =>
    have hb := h.buffers.decodePayload hp ht
    obtain ⟨-, rfl⟩ | ⟨_, -, -, -, rfl⟩ := decodePayload_ok ht <;> exact (h.withBuffers hb rfl rfl rfl).endOk_inv
  next e he =>
    obtain ⟨-, ⟨-, rfl⟩ | ⟨_, -, -, rfl⟩⟩ := decodePayload_error he <;> exact h.raise_inv (by decide)

/-! ### The retry loop -/

/-- A count below its highest value is counted up without wrap. -/
theorem toNat_add_one {m : Half} (h : m.toNat < 65535) : (m + 1).toNat = m.toNat + 1 :=
  BitVec.toNat_add_of_lt (by simp; omega)

/-- A WRSR about to take `retry_head`: a frame that is not built yet is built at the first attempt, and as many attempts were
started as the budget lost (R152, R153, R156, R158). -/
structure AtRetryHead (s : State) : Prop where
  buffers : s.BuffersOk
  curCmd : s.curCmd = 0x9#4
  st : s.st = .none
  noError : s.errCode = .none
  built : s.attempts = 0 ∨ s.txst = .sealed
  counted : s.rcState = .attempting → (s.attempts.toNat : Int) = s.rcN.toInt - s.remaining.toInt

theorem AtRetryHead.exhaust_inv (h : s.AtRetryHead) : s.exhaust.Inv := by
  rw [exhaust_eq]
  refine inv_iff.mpr ⟨?_, fun hp => (nomatch hp), fun hrc => (nomatch hrc), by simp [ErrorOk]⟩
  split
  next hpos =>
    have hsealed : s.txst = .sealed := h.built.resolve_left fun h0 => by simp [h0] at hpos
    exact (h.buffers.spent hsealed).congr rfl rfl rfl rfl rfl
  next => exact h.buffers.congr rfl rfl rfl rfl rfl

/-- The frame of every attempt is sealed, the first one's by its build (R154). -/
theorem AtRetryHead.firstBuild (h : s.AtRetryHead) : s.firstBuild.BuffersOk ∧ s.firstBuild.txst = .sealed := by
  unfold State.firstBuild
  split
  next => exact ⟨h.buffers.sealTx (by simp [ctxHeader]), rfl⟩
  next hne => exact ⟨h.buffers, h.built.resolve_left hne⟩

theorem firstBuild_fields (s : State) :
    s.firstBuild.st = s.st ∧ s.firstBuild.curCmd = s.curCmd ∧ s.firstBuild.errCode = s.errCode ∧
      s.firstBuild.rcState = s.rcState ∧ s.firstBuild.remaining = s.remaining ∧ s.firstBuild.rcN = s.rcN := by
  unfold firstBuild
  split <;> exact ⟨rfl, rfl, rfl, rfl, rfl, rfl⟩

/-- ATTEMPTS counts up without wrap: a positive budget leaves it below RC_N, a signed 16-bit number (R23, R154). -/
theorem AtRetryHead.attempts_add_one (h : s.AtRetryHead) (hrc : s.rcState = .attempting) (hpos : 0 < s.remaining.toInt) :
    (s.attempts + 1).toNat = s.attempts.toNat + 1 := by
  have hcount := h.counted hrc
  have hmax := s.rcN.toInt_lt
  exact toNat_add_one (by omega)

theorem AtRetryHead.startAttempt_inv (h : s.AtRetryHead) (hpos : 0 < s.remaining.toInt) : s.startAttempt.Inv := by
  obtain ⟨hbuf, hsealed⟩ := h.firstBuild
  obtain ⟨hst, hcmd, herr, hrc, hrem, hn⟩ := s.firstBuild_fields
  rw [startAttempt_eq]
  refine inv_iff.mpr ⟨hbuf.congr rfl rfl rfl rfl rfl, fun _ => ?_, fun ha => ?_, ?_⟩
  · exact ⟨.inr (.inr (.inl (hcmd.trans h.curCmd))), hsealed, hst.trans h.st⟩
  · have ha' : s.rcState = .attempting := hrc.symm.trans ha
    have hcount := h.counted ha'
    have hsucc := h.attempts_add_one ha' hpos
    refine ⟨hcmd.trans h.curCmd, rfl, ?_, ?_⟩ <;> simp only [hrem, hn, hsucc] <;> omega
  · simp [ErrorOk, hst, herr, h.st, h.noError]

theorem AtRetryHead.retryHead_inv (h : s.AtRetryHead) : s.retryHead.Inv := by
  obtain ⟨-, heq⟩ | ⟨hpos, heq⟩ := retryHead_cases s <;> rw [heq]
  · exact h.exhaust_inv
  · exact h.startAttempt_inv hpos

theorem Running.loadRetry (h : s.Running) (hc : s.curCmd = 0x9#4) : s.loadRetry.AtRetryHead :=
  ⟨h.buffers.congr rfl rfl rfl rfl rfl, hc, h.st, h.noError, .inl rfl, fun _ => by simp⟩

/-- A failed attempt takes one from the budget and goes back to `retry_head` (R156). -/
theorem Inv.attemptFailed (h : s.Inv) (hp : s.phase = .await) (hc : s.curCmd = 0x9#4) (cause : ErrCode) (tp : Byte) :
    (s.attemptFailed cause tp).Inv := by
  obtain ⟨hbuf, hawait, hatt, -⟩ := inv_iff.mp h
  obtain ⟨-, hsealed, hst⟩ := hawait hp
  refine AtRetryHead.retryHead_inv ⟨hbuf.congr rfl rfl rfl rfl rfl, hc, hst, h.errCode_of_await hp, .inr hsealed, ?_⟩
  intro hrc
  obtain ⟨-, -, hpos, hcount⟩ := hatt hrc
  have hsub := toInt_sub_one (m := s.remaining) (by omega)
  simp only [emit_attempts, emit_rcN, emit_remaining, hsub]
  omega

theorem Inv.attemptSucceeded (h : s.Inv) (hp : s.phase = .await) : s.attemptSucceeded.Inv := by
  obtain ⟨hbuf, hawait, -, -⟩ := inv_iff.mp h
  obtain ⟨-, hsealed, hst⟩ := hawait hp
  exact Running.endOk_inv ⟨(hbuf.spent hsealed).congr rfl rfl rfl rfl rfl, hst, h.errCode_of_await hp, fun hrc => nomatch hrc⟩

/-! ### The transport's answer -/

theorem Inv.receive (h : s.Inv) {bytes : List Byte} (hb : bytes.length ≤ 263) : (s.receive bytes).Inv := by
  obtain ⟨hbuf, hawait, hatt, herror⟩ := inv_iff.mp h
  refine inv_iff.mpr ⟨hbuf.receive hb, ?_⟩
  rw [receive_eq]
  exact ⟨hawait, hatt, herror⟩

theorem receive_phase (s : State) (bytes : List Byte) : (s.receive bytes).phase = s.phase := by rw [receive_eq]

theorem receive_curCmd (s : State) (bytes : List Byte) : (s.receive bytes).curCmd = s.curCmd := by rw [receive_eq]

theorem receive_rxValid (s : State) (bytes : List Byte) :
    (s.receive bytes).rxValid = decide (validate bytes = .ok) := by rw [receive_eq]

/-- A frame in flight is sealed, so its request may end with it SPENT (R32 d, f). -/
theorem Running.spent (h : s.Inv) (hp : s.phase = .await) (hc : s.curCmd ≠ 0x9#4) : Running { s with txst := .spent } :=
  have hr := Running.of_await h hp hc
  hr.withBuffers (hr.buffers.spent ((inv_iff.mp h).2.1 hp).2.1) rfl rfl rfl

theorem Running.received (h : s.Inv) (hp : s.phase = .await) (hc : s.curCmd ≠ 0x9#4) {bytes : List Byte}
    (hb : bytes.length ≤ 263) : (s.received bytes).Running :=
  Running.spent (h.receive hb) ((s.receive_phase bytes).trans hp) (by rwa [receive_curCmd])

theorem Inv.transportFailed (h : s.Inv) (hp : s.phase = .await) (hc : s.curCmd ≠ 0x9#4) (e : Byte) :
    (s.transportFailed e).Inv :=
  have hr := Running.spent h hp hc
  (hr.withBuffers (t := { s with txst := .spent, errTp := e }) (hr.buffers.congr rfl rfl rfl rfl rfl) rfl rfl rfl).raise_inv
    (by decide)

end State

open State

variable {s t : State}

/-- REQ and WRMR on the answer (R175, R177, R189). -/
theorem answerReq_inv (h : s.Inv) (hp : s.phase = .await) (hc : s.curCmd ≠ 0x9#4) {r : TpResult} (hr : r.fits = true) :
    (answerReq r s).Inv := by
  cases r with
  | fail e => exact h.transportFailed hp hc e
  | ok bytes =>
    have hrun := Running.received h hp hc (of_decide_eq_true hr)
    simp only [answerReq]
    split
    · exact hrun.endOk_inv
    · exact hrun.raise_inv (by decide)

/-- RDHR on the answer: the strip is reached with a valid frame, the decode with an open window (R187). -/
theorem answerRdhr_inv (h : s.Inv) (hp : s.phase = .await) (hc : s.curCmd ≠ 0x9#4) {r : TpResult} (hr : r.fits = true) :
    (answerRdhr r s).Inv := by
  cases r with
  | fail e => exact h.transportFailed hp hc e
  | ok bytes =>
    have hrun := Running.received h hp hc (of_decide_eq_true hr)
    simp only [answerRdhr]
    split
    next => exact hrun.raise_inv (by decide)
    next hok =>
      have hv : (s.received bytes).rxValid = true := by
        change (s.receive bytes).rxValid = true
        rw [receive_rxValid, hok]
        rfl
      split
      next => exact hrun.raise_inv (by decide)
      next t ht =>
        refine (hrun.stripRx hv ht).endDecode_inv ?_
        obtain ⟨-, rfl⟩ := stripRx_some ht
        rfl

/-- WRSR on the answer (R155, R156). -/
theorem answerWrsr_inv (h : s.Inv) (hp : s.phase = .await) (hc : s.curCmd = 0x9#4) {r : TpResult} (hr : r.fits = true) :
    (answerWrsr r s).Inv := by
  cases r with
  | fail e => exact h.attemptFailed hp hc _ _
  | ok bytes =>
    have hi := h.receive (of_decide_eq_true hr)
    have hp' := (s.receive_phase bytes).trans hp
    simp only [answerWrsr]
    split
    · exact hi.attemptSucceeded hp'
    · exact hi.attemptFailed hp' ((s.receive_curCmd bytes).trans hc) _ _

theorem tpResult_inv (h : s.Inv) {r : TpResult} (ht : tpResult r s = .next t) : t.Inv := by
  obtain ⟨hr, ⟨-, rfl⟩ | ⟨hp, ⟨hc, rfl⟩ | ⟨hc, rfl⟩ | ⟨hc, rfl⟩ | ⟨hc, rfl⟩⟩⟩ := tpResult_next ht
  · exact h
  · exact answerReq_inv h hp (by simp [hc]) hr
  · exact answerRdhr_inv h hp (by simp [hc]) hr
  · exact answerWrsr_inv h hp hc hr
  · exact answerReq_inv h hp (by simp [hc]) hr

end Sys2Proof.Machine
end

section
/-! PROOFS. Every step keeps the invariants of R32: commands, host transactions, the reset input, then the step. -/

namespace Sys2Proof.Machine

open State

variable {s t : State}

/-- The body of every command code meets R32 when it runs after the prologue. -/
theorem CommandBody.inv {c : BitVec 4} {body : State → State} (hbody : CommandBody c body) (h : s.Running)
    (hc : s.curCmd = c) : (body s).Inv := by
  cases hbody with
  | bldf => exact (h.openTx (by simp [fixedHeader])).endOk_inv
  | bldv => exact (h.openTx (h.length_varHeader_le _)).endOk_inv
  | appt =>
    unfold apptBody
    split
    next htx => exact (h.sealTx (h.buffers.lengths.2 htx)).endOk_inv
    all_goals exact h.raise_inv (by decide)
  | valt =>
    unfold valtBody
    split
    · exact h.judgeRx.endOk_inv
    · exact h.judgeRx.raise_inv (by decide)
  | strp =>
    unfold strpBody
    split
    next hv =>
      split
      next ht => exact (h.stripRx hv ht).endOk_inv
      next => exact (h.withBuffers h.buffers.clearPayValid rfl rfl rfl).raise_inv (by decide)
    next => exact h.raise_inv (by decide)
  | decd =>
    unfold decdBody
    split
    next hp => exact h.endDecode_inv hp
    next => exact h.raise_inv (by decide)
  | req =>
    unfold reqBody
    split
    next htx => exact h.submit_inv htx (.inl hc)
    all_goals exact h.raise_inv (by decide)
  | rdhr =>
    unfold rdhrBody
    split
    next => exact (h.sealTx (by simp [fixedHeader])).submit_inv rfl (.inr (.inl hc))
    next => exact h.raise_inv (by decide)
  | wrsr => exact (h.loadRetry hc).retryHead_inv
  | wrmr => exact (h.sealTx (h.length_varHeader_le _)).submit_inv rfl (.inr (.inr (.inr hc)))
  | crcg => exact (h.withBuffers (t := { s with crcr := _ }) (h.buffers.congr rfl rfl rfl rfl rfl) rfl rfl rfl).endOk_inv
  | illegal => exact h.raise_inv (by decide)

/-- A command is rejected with an event only, or accepted and run (R196). -/
theorem command_inv {c : BitVec 4} {body : State → State} (hbody : CommandBody c body) (h : s.Inv) :
    (s.command c body).Inv := by
  cases hp : s.phase with
  | await =>
    rw [command_await hp]
    exact h
  | idle =>
    rw [command_idle hp]
    exact hbody.inv (.of_accept h c) rfl

theorem putReg_inv (h : s.Inv) (r : Reg) (v : Nat) : (s.putReg r v).Inv := by cases r <;> exact h

theorem regWrite_inv (h : s.Inv) (index value : Nat) : (regWrite index value s).Inv := by
  obtain heq | ⟨r, -, -, -, heq⟩ := regWrite_cases index value s <;> rw [heq]
  · exact h
  · exact putReg_inv h r value

/-- A BufLoad is accepted while idle only, so the clauses about AWAIT say nothing of it (R194). -/
theorem bufLoad_inv (h : s.Inv) (l : Load) : (bufLoad l s).Inv := by
  obtain heq | ⟨hp, hfits, heq⟩ := bufLoad_cases l s <;> rw [heq]
  · exact h
  · obtain ⟨hbuf, hawait, hatt, herror⟩ := inv_iff.mp h
    have hidle (hq : s.phase = .await) : False := by simp [hp] at hq
    cases l with
    | txbuf b =>
      exact inv_iff.mpr ⟨(hbuf.openTx (of_decide_eq_true hfits)).congr rfl rfl rfl rfl rfl, fun hq => (hidle hq).elim, hatt,
        herror⟩
    | rxbuf b =>
      exact inv_iff.mpr ⟨(hbuf.loadRx (of_decide_eq_true hfits)).congr rfl rfl rfl rfl rfl, hawait, hatt, herror⟩
    | valbuf b =>
      exact inv_iff.mpr ⟨(hbuf.loadVal (of_decide_eq_true hfits)).congr rfl rfl rfl rfl rfl, hawait, hatt, herror⟩

theorem reset_inv : State.reset.Inv :=
  inv_iff.mpr ⟨⟨fun h => (nomatch h), fun h => (nomatch h), fun _ => rfl, fun h => by simp [State.reset] at h,
    reset_memory_wf, fun h => (nomatch h)⟩, fun h => (nomatch h), fun h => (nomatch h), by simp [ErrorOk, State.reset]⟩

theorem applyReset_inv (s : State) : s.applyReset.Inv := reset_inv

theorem exec_inv {i : Instr} (h : s.Inv) (ht : exec i s = .next t) : t.Inv := by
  cases rowKind i with
  | command _ hbody run =>
    obtain rfl : s.command _ _ = t := by simpa [run] using ht
    exact command_inv hbody h
  | sequence _ hbody run =>
    obtain rfl : (s.command _ _).command _ _ = t := by simpa [run] using ht
    exact command_inv .appt (command_inv hbody h)
  | frame _ run => exact tpResult_inv h ((run s).symm.trans ht)
  | dtype _ run =>
    obtain rfl : s.writeOpCtrl _ _ _ = t := by simpa [run] using ht
    exact regWrite_inv h _ _

theorem deliver_inv {input : Input} (h : s.Inv) (ht : deliver input s = .next t) : t.Inv := by
  cases input with
  | word fmt bytes =>
    obtain ⟨i, -, hexec⟩ := runWord_next ht
    exact exec_inv h hexec
  | regWrite index value => cases ht; exact regWrite_inv h index value
  | regRead index =>
    obtain ⟨r, hr⟩ := regRead_answers index s
    cases ht
    rw [hr]
    exact h
  | bufLoad l => cases ht; exact bufLoad_inv h l
  | bufRead space a n =>
    obtain ⟨r, hr⟩ := bufRead_answers space a n s
    cases ht
    rw [hr]
    exact h
  | tpResult r => exact tpResult_inv h ht
  | reset => cases ht; exact applyReset_inv s

/-- Settles O4: a step delivers one input or none, and every input keeps the eight clauses. -/
theorem stepKeepsInvariant : Obligations.StepKeepsInvariant := by
  intro s t h hstep
  obtain ⟨-, rfl⟩ | ⟨input, rest, -, hdeliver⟩ := step_next hstep
  · exact h
  · exact deliver_inv (s := { s with inbox := rest }) h hdeliver

end Sys2Proof.Machine
end

section
/-! PROOFS. The links between a command in flight and the registers it left (R23, R56, R152, R156, R186): only WRSR and RDHR have
one, and only while they await. -/

namespace Sys2Proof.Machine

open State

variable {s t : State}

/-- No command is in flight while idle. -/
theorem linked_of_idle (h : s.phase = .idle) : s.Linked :=
  ⟨fun ⟨hp, _⟩ => by simp [h] at hp, fun ⟨hp, _⟩ => by simp [h] at hp⟩

theorem linked_of_curCmd (h8 : s.curCmd ≠ 0x8#4) (h9 : s.curCmd ≠ 0x9#4) : s.Linked :=
  ⟨fun ⟨_, hc⟩ => absurd hc h9, fun ⟨_, hc⟩ => absurd hc h8⟩

theorem endDecode_phase (s : State) : s.endDecode.phase = .idle := by
  unfold endDecode
  split <;> rfl

/-- An answer ends REQ and WRMR (R175, R177, R189). -/
theorem answerReq_phase (r : TpResult) (s : State) : (answerReq r s).phase = .idle := by
  unfold answerReq
  split
  · rfl
  · split <;> rfl

/-- An answer ends RDHR (R175, R187). -/
theorem answerRdhr_phase (r : TpResult) (s : State) : (answerRdhr r s).phase = .idle := by
  unfold answerRdhr
  split
  · rfl
  · split
    · rfl
    · split
      · rfl
      · exact endDecode_phase _

/-- `retry_head` ends the command, or leaves an attempt counted and in flight (R153, R154). -/
theorem retryHead_linked (hcmd : s.curCmd = 0x9#4) (hrc : s.rcState = .attempting)
    (hrem : s.remaining.toInt ≤ s.rcN.toInt) (hatt : s.attempts.toNat < 65535) : s.retryHead.Linked := by
  obtain ⟨-, heq⟩ | ⟨-, heq⟩ := retryHead_cases s <;> rw [heq]
  · exact linked_of_idle (by rw [exhaust_eq])
  · obtain ⟨-, hcmd', -, hrc', hrem', hn'⟩ := s.firstBuild_fields
    have hsucc := toNat_add_one hatt
    rw [startAttempt_eq]
    refine ⟨fun _ => ⟨hrc'.trans hrc, ?_, ?_⟩, fun ⟨_, hc⟩ => ?_⟩
    · simpa only [hrem', hn'] using hrem
    · simp only [hsucc]
      omega
    · simp [hcmd', hcmd] at hc

/-- The links hold of a WRSR that has failed an attempt, as they did before it (R156). -/
theorem attemptFailed_linked (h : s.Inv) (hl : s.Linked) (hp : s.phase = .await) (hc : s.curCmd = 0x9#4) (cause : ErrCode)
    (tp : Byte) : (s.attemptFailed cause tp).Linked := by
  obtain ⟨hrc, hrem, -⟩ := hl.1 ⟨hp, hc⟩
  obtain ⟨-, -, hatt, -⟩ := inv_iff.mp h
  obtain ⟨-, -, hpos, hcount⟩ := hatt hrc
  have hsub := toInt_sub_one (m := s.remaining) (by omega)
  have hmax := s.rcN.toInt_lt
  unfold attemptFailed
  refine retryHead_linked hc hrc ?_ ?_
  · simp only [emit_remaining, emit_rcN, hsub]
    omega
  · simp only [emit_attempts]
    omega

theorem receive_linked (h : s.Linked) (bytes : List Byte) : (s.receive bytes).Linked := by
  rw [receive_eq]
  exact h

theorem answerWrsr_linked (h : s.Inv) (hl : s.Linked) (hp : s.phase = .await) (hc : s.curCmd = 0x9#4) {r : TpResult}
    (hr : r.fits = true) : (answerWrsr r s).Linked := by
  cases r with
  | fail e => exact attemptFailed_linked h hl hp hc _ _
  | ok bytes =>
    simp only [answerWrsr]
    split
    · exact linked_of_idle rfl
    · exact attemptFailed_linked (h.receive (of_decide_eq_true hr)) (receive_linked hl bytes)
        ((s.receive_phase bytes).trans hp) ((s.receive_curCmd bytes).trans hc) _ _

theorem tpResult_linked (h : s.Inv) (hl : s.Linked) {r : TpResult} (ht : tpResult r s = .next t) : t.Linked := by
  obtain ⟨hr, ⟨-, rfl⟩ | ⟨hp, ⟨-, rfl⟩ | ⟨-, rfl⟩ | ⟨hc, rfl⟩ | ⟨-, rfl⟩⟩⟩ := tpResult_next ht
  · exact hl
  · exact linked_of_idle (answerReq_phase r s)
  · exact linked_of_idle (answerRdhr_phase r s)
  · exact answerWrsr_linked h hl hp hc hr
  · exact linked_of_idle (answerReq_phase r s)

/-- An accepted command ends at once, or submits under REQ or WRMR, which have no link, or leaves the link of WRSR or RDHR. -/
theorem CommandBody.linked {c : BitVec 4} {body : State → State} (hbody : CommandBody c body) (hc : s.curCmd = c) :
    (body s).Linked := by
  cases hbody with
  | bldf | bldv | crcg | illegal => exact linked_of_idle rfl
  | appt =>
    unfold apptBody
    split <;> exact linked_of_idle rfl
  | valt =>
    unfold valtBody
    split <;> exact linked_of_idle rfl
  | strp =>
    unfold strpBody
    split
    · split <;> exact linked_of_idle rfl
    · exact linked_of_idle rfl
  | decd =>
    unfold decdBody
    split
    · exact linked_of_idle (endDecode_phase s)
    · exact linked_of_idle rfl
  | req =>
    unfold reqBody
    split
    · exact linked_of_curCmd (by simp [hc]) (by simp [hc])
    all_goals exact linked_of_idle rfl
  | rdhr =>
    unfold rdhrBody
    split
    next htag => exact ⟨fun ⟨_, h9⟩ => by simp [hc] at h9, fun _ => htag⟩
    next => exact linked_of_idle rfl
  | wrsr => exact retryHead_linked hc rfl (by simp) (by simp)
  | wrmr => exact linked_of_curCmd (by simp [wrmrBody, hc]) (by simp [wrmrBody, hc])

theorem command_linked {c : BitVec 4} {body : State → State} (hbody : CommandBody c body) (h : s.Linked) :
    (s.command c body).Linked := by
  cases hp : s.phase with
  | await =>
    rw [command_await hp]
    exact h
  | idle =>
    rw [command_idle hp]
    exact hbody.linked rfl

theorem putReg_phase (s : State) (r : Reg) (v : Nat) : (s.putReg r v).phase = s.phase := by cases r <;> rfl

/-- The tag RDHR was accepted with stays: OP_CTRL is writable while idle only (R56, R192). -/
theorem regWrite_linked (h : s.Linked) (index value : Nat) : (regWrite index value s).Linked := by
  obtain heq | ⟨r, hp, -, -, heq⟩ := regWrite_cases index value s <;> rw [heq]
  · exact h
  · exact linked_of_idle ((putReg_phase s r value).trans hp)

theorem load_phase (s : State) (l : Load) : (s.load l).phase = s.phase := by cases l <;> rfl

theorem bufLoad_linked (h : s.Linked) (l : Load) : (bufLoad l s).Linked := by
  obtain heq | ⟨hp, -, heq⟩ := bufLoad_cases l s <;> rw [heq]
  · exact h
  · exact linked_of_idle ((load_phase s l).trans hp)

theorem exec_linked {i : Instr} (h : s.Inv) (hl : s.Linked) (ht : exec i s = .next t) : t.Linked := by
  cases rowKind i with
  | command _ hbody run =>
    obtain rfl : s.command _ _ = t := by simpa [run] using ht
    exact command_linked hbody hl
  | sequence _ hbody run =>
    obtain rfl : (s.command _ _).command _ _ = t := by simpa [run] using ht
    exact command_linked .appt (command_linked hbody hl)
  | frame _ run => exact tpResult_linked h hl ((run s).symm.trans ht)
  | dtype _ run =>
    obtain rfl : s.writeOpCtrl _ _ _ = t := by simpa [run] using ht
    exact regWrite_linked hl _ _

theorem deliver_linked {input : Input} (h : s.Inv) (hl : s.Linked) (ht : deliver input s = .next t) : t.Linked := by
  cases input with
  | word fmt bytes =>
    obtain ⟨i, -, hexec⟩ := runWord_next ht
    exact exec_linked h hl hexec
  | regWrite index value => cases ht; exact regWrite_linked hl index value
  | regRead index =>
    obtain ⟨r, hr⟩ := regRead_answers index s
    cases ht
    rw [hr]
    exact hl
  | bufLoad l => cases ht; exact bufLoad_linked hl l
  | bufRead space a n =>
    obtain ⟨r, hr⟩ := bufRead_answers space a n s
    cases ht
    rw [hr]
    exact hl
  | tpResult r => exact tpResult_linked h hl ht
  | reset => cases ht; exact linked_of_idle rfl

/-- Settles O5: a step delivers one input or none, and every input keeps the links. -/
theorem stepKeepsCommandLinks : Obligations.StepKeepsCommandLinks := by
  intro s t h hl hstep
  obtain ⟨-, rfl⟩ | ⟨input, rest, -, hdeliver⟩ := step_next hstep
  · exact hl
  · exact deliver_linked (s := { s with inbox := rest }) h hl hdeliver

/-- Settles O3: the buffers are empty and nothing is in flight. -/
theorem resetMeetsInvariant : Obligations.ResetMeetsInvariant := ⟨reset_inv, linked_of_idle rfl⟩

end Sys2Proof.Machine
end

section
/-! PROOFS. What the decoder accepts, format by format: the row it reads, and the bytes it read it from, written as the encoder
writes them (R60 to R72, R191). -/

namespace Sys2Proof.Machine

/-! ### OP_CTRL as a number -/

theorem opCtrlWord_toNat (r x : Bool) (d : BitVec 3) : (opCtrlWord r x d).toNat = r.toNat + 2 * x.toNat + 4 * d.toNat := by
  have hr := r.toNat_lt
  have hx := x.toNat_lt
  have hd := d.isLt
  simp only [opCtrlWord, BitVec.toNat_ofNat]
  omega

/-- A byte with bits 7:5 zero is the low byte of the value its fields make (R16). -/
theorem le16_opCtrlWord {lo : Byte} (h : lo.toNat < 32) :
    le16 (opCtrlWord (lo.getLsbD 0) (lo.getLsbD 1) (lo.extractLsb' 2 3)) = [lo, 0] := by
  have hnum : (opCtrlWord (lo.getLsbD 0) (lo.getLsbD 1) (lo.extractLsb' 2 3)).toNat = lo.toNat := by
    rw [opCtrlWord_toNat]
    simp only [BitVec.getLsbD, Nat.toNat_testBit, BitVec.extractLsb'_toNat, Nat.shiftRight_eq_div_pow]
    omega
  have hlo : lo8 (opCtrlWord (lo.getLsbD 0) (lo.getLsbD 1) (lo.extractLsb' 2 3)) = lo := by
    apply BitVec.eq_of_toNat_eq
    rw [lo8_toNat, hnum]
    omega
  have hhi : hi8 (opCtrlWord (lo.getLsbD 0) (lo.getLsbD 1) (lo.extractLsb' 2 3)) = 0 := by
    apply BitVec.eq_of_toNat_eq
    rw [hi8_toNat, hnum]
    simp
    omega
  rw [le16, hlo, hhi]

end Sys2Proof.Machine

namespace Sys2Proof

open Sys2Proof.Machine

/-! ### The rows the decoder chooses -/

/-- Every code has its row, and the row its code (R70, R71). -/
theorem encode_decodeCommand (c : BitVec 4) : encode (decodeCommand c) = (.cmd4, [c.setWidth 8]) := by
  revert c
  decide

theorem decodeCommand_wellFormed (c : BitVec 4) : (decodeCommand c).wellFormed = true := by
  revert c
  decide

theorem encode_fixedRow (a f : Byte) (p q : Half) : encode (fixedRow a f p q) = (.fixed, wireFixed a f p q) := by
  unfold fixedRow
  split
  next hf => rw [hf]; rfl
  next =>
    split
    next hf => rw [hf]; rfl
    next => rfl

theorem fixedRow_wellFormed (a f : Byte) (p q : Half) : (fixedRow a f p q).wellFormed = true := by
  unfold fixedRow
  split
  next => rfl
  next hread =>
    split
    next => rfl
    next hwrite => simpa [Instr.wellFormed, ownFixedRow] using ⟨hread, hwrite⟩

theorem encode_varRow (a f : Byte) (s : Half) (vals : List Half) : encode (varRow a f s vals) = (.var, wireVar a f s vals) := by
  unfold varRow
  split
  next hf => rw [hf]; rfl
  next => rfl

theorem varRow_wellFormed (a f : Byte) (s : Half) {vals : List Half} (h : vals.length ≤ 127) :
    (varRow a f s vals).wellFormed = true := by
  unfold varRow
  split
  next => simpa [Instr.wellFormed] using h
  next hf => simpa [Instr.wellFormed, ownVarRow] using ⟨hf, h⟩

theorem encode_dtypeRow (r x : Bool) (d : BitVec 3) : encode (dtypeRow r x d) = encodeOpCtrl r x d := by
  revert r x d
  decide

theorem dtypeRow_wellFormed (r x : Bool) (d : BitVec 3) : (dtypeRow r x d).wellFormed = true := by
  unfold dtypeRow
  split <;> rfl

/-! ### What each format's decoder accepts -/

/-- A frame whose trailer fits is the sealing of the bytes before it (R60, R66). -/
theorem appendTrailer_of_trailerFits {f body : List Byte} (h : trailerFits f = true) (hbody : f.take (f.length - 2) = body) :
    f = appendTrailer body := by
  subst hbody
  exact (eq_of_beq h).symm

/-- A check that passed: the decoder went on. -/
theorem of_ite_error_eq_ok {c : Prop} [Decidable c] {r : Reject} {x : Except Reject Instr} {i : Instr}
    (h : (if c then .error r else x) = .ok i) : ¬c ∧ x = .ok i := by
  split at h
  · cases h
  · exact ⟨‹_›, h⟩

theorem of_ite_ok_eq_ok {c : Prop} [Decidable c] {r : Reject} {x : Except Reject Instr} {i : Instr}
    (h : (if c then x else .error r) = .ok i) : c ∧ x = .ok i := by
  split at h
  · exact ⟨‹_›, h⟩
  · cases h

theorem decodeCmd4_ok {w : List Byte} {i : Instr} (h : decodeCmd4 w = .ok i) :
    ∃ c : BitVec 4, i = decodeCommand c ∧ w = [c.setWidth 8] := by
  unfold decodeCmd4 at h
  split at h
  case h_2 => cases h
  case h_1 b =>
    obtain ⟨hb, hi⟩ := of_ite_ok_eq_ok h
    cases hi
    have hwidth : (b.setWidth 4).setWidth 8 = b := by
      apply BitVec.eq_of_toNat_eq
      simp
      omega
    exact ⟨b.setWidth 4, rfl, by rw [hwidth]⟩

theorem decodePseudo_ok {w : List Byte} {i : Instr} (h : decodePseudo w = .ok i) :
    (i = .mkfixed ∧ w = [0x01#8, 0x03#8]) ∨ (i = .mkvar ∧ w = [0x02#8, 0x03#8]) := by
  unfold decodePseudo at h
  split at h
  case h_2 => cases h
  case h_1 a b =>
    split at h
    case isTrue hab => cases h; exact .inl ⟨rfl, by rw [hab.1, hab.2]⟩
    case isFalse =>
      obtain ⟨⟨rfl, rfl⟩, hi⟩ := of_ite_ok_eq_ok h
      cases hi
      exact .inr ⟨rfl, rfl⟩

theorem decodeFixed_ok {w : List Byte} {i : Instr} (h : decodeFixed w = .ok i) :
    ∃ a f p q, i = fixedRow a f p q ∧ w = wireFixed a f p q := by
  unfold decodeFixed at h
  split at h
  case h_2 => cases h
  case h_1 a f p1 p0 q1 q0 c0 c1 =>
    obtain ⟨hfits, hi⟩ := of_ite_ok_eq_ok h
    cases hi
    exact ⟨a, f, _, _, rfl, appendTrailer_of_trailerFits hfits (by simp [buildFixed, be16])⟩

/-- The count field, the byteCount field and the length agree with the words read (R63, R68). -/
theorem decodeVar_ok {w : List Byte} {i : Instr} (h : decodeVar w = .ok i) :
    ∃ a f s vals, vals.length ≤ 127 ∧ i = varRow a f s vals ∧ w = wireVar a f s vals := by
  unfold decodeVar at h
  split at h
  case h_2 => cases h
  case h_1 a f s1 s0 n1 n0 b rest =>
    obtain ⟨hmax, h⟩ := of_ite_error_eq_ok h
    obtain ⟨hcount, h⟩ := of_ite_error_eq_ok h
    obtain ⟨hlen, h⟩ := of_ite_error_eq_ok h
    obtain ⟨hfits, hi⟩ := of_ite_ok_eq_ok h
    cases hi
    generalize hn : (join16 n1 n0).toNat = n at *
    have hpayload : (rest.take (2 * n)).length = 2 * n := by rw [List.length_take]; omega
    have hvals : (words16 (rest.take (2 * n))).length = n := by rw [length_words16, hpayload]; omega
    refine ⟨a, f, _, _, by rw [hvals]; exact not_lt.mp hmax, rfl, appendTrailer_of_trailerFits hfits ?_⟩
    have hbytes := flatMap_be16_words16 (p := rest.take (2 * n)) (by omega)
    have hjoin : BitVec.ofNat 16 n = join16 n1 n0 := by rw [← hn]; simp
    simp [buildVar, be16, hvals, hbytes, hjoin, not_not.mp hcount, not_not.mp hlen]

theorem decodeRespRead_ok {w : List Byte} {i : Instr} (h : decodeRespRead w = .ok i) :
    ∃ a f n payload, payload.length + 5 ≤ 263 ∧ i = .frameRespRead a f n payload ∧ w = wireRespRead a f n payload := by
  unfold decodeRespRead at h
  split at h
  case h_2 => cases h
  case h_1 a f n rest =>
    obtain ⟨hlen, h⟩ := of_ite_error_eq_ok h
    obtain ⟨hfits, hi⟩ := of_ite_ok_eq_ok h
    cases hi
    obtain ⟨hmin, hmax⟩ : 2 ≤ rest.length ∧ rest.length + 3 ≤ 263 := by simpa [Nat.succ_le_iff] using hlen
    have hbody : (a :: f :: n :: rest).length - 2 = rest.length - 2 + 3 := by simp; omega
    exact ⟨a, f, n, rest.take (rest.length - 2), by simp; omega, rfl,
      appendTrailer_of_trailerFits hfits (by rw [hbody]; rfl)⟩

theorem decodeAnyFrame_ok {w : List Byte} {i : Instr} (h : decodeAnyFrame w = .ok i) :
    ∃ body low high, body.length + 2 ≤ 263 ∧ i = .trailer body low high ∧ w = wireAny body low high := by
  obtain ⟨hlen, hi⟩ := of_ite_error_eq_ok h
  cases hi
  obtain ⟨hmin, hmax⟩ : 2 ≤ w.length ∧ w.length ≤ 263 := by simpa [Nat.succ_le_iff] using hlen
  have hlast : w.drop (w.length - 2) = [w.getD (w.length - 2) 0, w.getD (w.length - 1) 0] := by
    rw [List.drop_eq_getElem_cons (by omega), List.drop_eq_getElem_cons (by omega), List.drop_eq_nil_of_le (by omega)]
    simp [show w.length - 2 + 1 = w.length - 1 by omega, show w.length - 2 < w.length by omega,
      show w.length - 1 < w.length by omega]
  refine ⟨_, _, _, by simp; omega, rfl, ?_⟩
  rw [wireAny, ← hlast, List.take_append_drop]

theorem decodeOpCtrl_ok {w : List Byte} {i : Instr} (h : decodeOpCtrl w = .ok i) :
    ∃ lo hi, i = dtypeRow (lo.getLsbD 0) (lo.getLsbD 1) (lo.extractLsb' 2 3) ∧ w = [lo, hi] := by
  unfold decodeOpCtrl at h
  split at h
  case h_1 lo hi => cases h; exact ⟨lo, hi, rfl, rfl⟩
  case h_2 => cases h

/-- The decoder reads well-formed instructions only. -/
theorem decode_wellFormed {fmt : Format} {w : List Byte} {i : Instr} (h : decode fmt w = .ok i) : i.wellFormed = true := by
  cases fmt with
  | cmd4 => obtain ⟨c, rfl, -⟩ := decodeCmd4_ok h; exact decodeCommand_wellFormed c
  | pseudo => obtain ⟨rfl, -⟩ | ⟨rfl, -⟩ := decodePseudo_ok h <;> rfl
  | fixed => obtain ⟨a, f, p, q, rfl, -⟩ := decodeFixed_ok h; exact fixedRow_wellFormed a f p q
  | var => obtain ⟨a, f, s, vals, hlen, rfl, -⟩ := decodeVar_ok h; exact varRow_wellFormed a f s hlen
  | respRead => obtain ⟨a, f, n, p, hlen, rfl, -⟩ := decodeRespRead_ok h; exact decide_eq_true hlen
  | anyFrame => obtain ⟨body, low, high, hlen, rfl, -⟩ := decodeAnyFrame_ok h; exact decide_eq_true hlen
  | opCtrl => obtain ⟨lo, hi, rfl, -⟩ := decodeOpCtrl_ok h; exact dtypeRow_wellFormed _ _ _

/-- Settles O12: format by format, the encoder writes the bytes the decoder read. -/
theorem encodeDecodeRoundTrip : Obligations.EncodeDecodeRoundTrip := by
  intro fmt w i h
  refine ⟨decode_wellFormed h, fun hzero => ?_⟩
  cases fmt with
  | cmd4 => obtain ⟨c, rfl, rfl⟩ := decodeCmd4_ok h; exact encode_decodeCommand c
  | pseudo => obtain ⟨rfl, rfl⟩ | ⟨rfl, rfl⟩ := decodePseudo_ok h <;> rfl
  | fixed => obtain ⟨a, f, p, q, rfl, rfl⟩ := decodeFixed_ok h; exact encode_fixedRow a f p q
  | var => obtain ⟨a, f, s, vals, -, rfl, rfl⟩ := decodeVar_ok h; exact encode_varRow a f s vals
  | respRead => obtain ⟨a, f, n, p, -, rfl, rfl⟩ := decodeRespRead_ok h; rfl
  | anyFrame => obtain ⟨body, low, high, -, rfl, rfl⟩ := decodeAnyFrame_ok h; rfl
  | opCtrl =>
    obtain ⟨lo, hlo, hlt⟩ := hzero.resolve_left fun hne => hne rfl
    obtain ⟨lo', hi, rfl, hw⟩ := decodeOpCtrl_ok h
    obtain ⟨rfl, rfl⟩ : lo' = lo ∧ hi = 0 := by simpa [hlo] using hw.symm
    rw [encode_dtypeRow, encodeOpCtrl, le16_opCtrlWord hlt, hlo]

end Sys2Proof
end

section
/-! PROOFS. An input within the ports' contracts is answered with a next state (R170, R174, R181). -/

namespace Sys2Proof.Machine

variable {s : State}

/-- The frame of a well-formed row is one the transport's port allows (R40, R170). -/
theorem length_encode_le_of_isFrame {i : Instr} (hf : i.isFrame = true) (hw : i.wellFormed = true) :
    (encode i).2.length ≤ 263 := by
  cases i with
  | frameFixed a f p q => exact (Laws.EncodedLength.frameFixed a f p q hw).2
  | frameReadHolding a p q => exact (Laws.EncodedLength.frameReadHolding a p q hw).2
  | frameWriteSingle a p q => exact (Laws.EncodedLength.frameWriteSingle a p q hw).2
  | frameWriteMultiple a p vals => exact (Laws.EncodedLength.frameWriteMultiple a p vals hw).2
  | frameVar a f p vals => exact (Laws.EncodedLength.frameVar a f p vals hw).2
  | frameRespRead a f n payload => exact (Laws.EncodedLength.frameRespRead a f n payload hw).2
  | trailer body low high => exact (Laws.EncodedLength.trailer body low high hw).2
  | _ => cases hf

/-- An answer that fits is dropped while idle, and in AWAIT goes to one of the four awaiting commands (R32 f, R180). -/
theorem tpResult_completes (h : s.Inv) {r : TpResult} (hr : r.fits = true) : ∃ t, tpResult r s = .next t := by
  cases hp : s.phase with
  | idle => exact ⟨s, by simp [tpResult, hr, hp]⟩
  | await =>
    obtain ⟨-, hawait, -⟩ := State.inv_iff.mp h
    obtain ⟨hc | hc | hc | hc, -⟩ := hawait hp
    · exact ⟨_, tpResult_req hr hp hc⟩
    · exact ⟨_, tpResult_rdhr hr hp hc⟩
    · exact ⟨_, tpResult_wrsr hr hp hc⟩
    · exact ⟨_, tpResult_wrmr hr hp hc⟩

theorem exec_completes {i : Instr} (h : s.Inv) (hw : i.wellFormed = true) : ∃ t, exec i s = .next t := by
  cases rowKind i with
  | command _ _ run => exact ⟨_, run s⟩
  | sequence _ _ run => exact ⟨_, run s⟩
  | frame hf run =>
    rw [run s]
    exact tpResult_completes h (decide_eq_true (length_encode_le_of_isFrame hf hw))
  | dtype _ run => exact ⟨_, run s⟩

theorem deliver_completes {input : Input} (h : s.Inv) (hin : input.inContract = true) : ∃ t, deliver input s = .next t := by
  cases input with
  | word fmt bytes =>
    cases hi : decode fmt bytes with
    | error r => simp [Input.inContract, hi, Except.isOk, Except.toBool] at hin
    | ok i =>
      rw [deliver_word, runWord_of_decode_ok hi]
      exact exec_completes h (decode_wellFormed hi)
  | tpResult r => exact tpResult_completes h hin
  | regWrite | regRead | bufLoad | bufRead | reset => exact ⟨_, rfl⟩

/-- Settles O6: with no input the block waits, and every input within the contracts is answered. -/
theorem inContractInputCompletes : Obligations.InContractInputCompletes := by
  refine fun s h => ⟨fun hempty => by simp only [step, hempty], fun input rest hinbox hin => ?_⟩
  rw [step_of_inbox_cons hinbox]
  exact deliver_completes (s := { s with inbox := rest }) h hin

end Sys2Proof.Machine
end

section
/-! PROOFS. What a command does not see and what it does not write: the result of the command before (R196, R215), and the operand
and configuration registers with VALBUF (R12 to R18, R30). -/

namespace Sys2Proof.Machine

/-- Settles O8: the acceptance prologue writes every one of these fields before the body runs (R196). -/
theorem failuresAreScopedToTheirCommand : Obligations.FailuresAreScopedToTheirCommand := by
  intro i s st code e c tp rc r a n hi hidle
  have hfmt : (encode i).1 = .cmd4 := eq_of_beq hi
  cases rowKind i with
  | command _ _ run =>
    rw [run, run, command_idle hidle, command_idle (by exact hidle)]
    rfl
  | sequence hpseudo _ _ => simp [hfmt] at hpseudo
  | frame hf _ => simp [Instr.isFrame, hfmt] at hf
  | dtype hdtype _ => simp [hfmt] at hdtype

namespace State

/-- The operand and configuration registers and VALBUF, which only RegWrite and BufLoad write, and the script and replies. -/
def operands (s : State) :
    (Byte × Byte × Half × Half × Half × OpCtrl) ×
      (Half × BitVec Config.timeoutW × BitVec Config.timeoutW) × List Half × List Input × List Reply :=
  ((s.opSlave, s.opFunc, s.opF1, s.opF2, s.opRetry, s.opCtrl),
    (s.cfgDefaultRetry, s.cfgRespTimeout, s.cfgQueueTimeout), s.mem.valbuf, s.inbox, s.replies)

theorem operands_eq_iff {s t : State} : t.operands = s.operands ↔
    t.opSlave = s.opSlave ∧ t.opFunc = s.opFunc ∧ t.opF1 = s.opF1 ∧ t.opF2 = s.opF2 ∧ t.opRetry = s.opRetry ∧
    t.opCtrl = s.opCtrl ∧ t.cfgDefaultRetry = s.cfgDefaultRetry ∧ t.cfgRespTimeout = s.cfgRespTimeout ∧
    t.cfgQueueTimeout = s.cfgQueueTimeout ∧ t.mem.valbuf = s.mem.valbuf ∧ t.inbox = s.inbox ∧ t.replies = s.replies := by
  simp only [operands, Prod.mk.injEq, and_assoc]

theorem judgeRx_operands (s : State) : s.judgeRx.operands = s.operands := by
  obtain ⟨-, heq⟩ | ⟨-, -, heq⟩ | ⟨-, -, heq⟩ := judgeRx_cases s <;> rw [heq] <;> rfl

theorem receive_operands (s : State) (bytes : List Byte) : (s.receive bytes).operands = s.operands := by
  rw [receive_eq]
  rfl

theorem stripRx_operands {s t : State} (h : s.stripRx = some t) : t.operands = s.operands := by
  obtain ⟨-, rfl⟩ := stripRx_some h
  rfl

theorem endDecode_operands (s : State) : s.endDecode.operands = s.operands := by
  unfold endDecode
  split
  next t ht => obtain ⟨-, rfl⟩ | ⟨_, -, -, -, rfl⟩ := decodePayload_ok ht <;> rfl
  next => rfl

theorem retryHead_operands (s : State) : s.retryHead.operands = s.operands := by
  obtain ⟨-, heq⟩ | ⟨-, heq⟩ := retryHead_cases s <;> rw [heq]
  · rw [exhaust_eq]
    rfl
  · unfold startAttempt firstBuild
    split <;> rfl

theorem received_operands (s : State) (bytes : List Byte) : (s.received bytes).operands = s.operands :=
  receive_operands s bytes

end State

open State

variable {s t : State}

theorem answerReq_operands (r : TpResult) (s : State) : (answerReq r s).operands = s.operands := by
  cases r with
  | fail e => rfl
  | ok bytes =>
    simp only [answerReq]
    split <;> exact received_operands s bytes

theorem answerRdhr_operands (r : TpResult) (s : State) : (answerRdhr r s).operands = s.operands := by
  cases r with
  | fail e => rfl
  | ok bytes =>
    simp only [answerRdhr]
    split
    next => exact received_operands s bytes
    next =>
      split
      next => exact received_operands s bytes
      next t ht =>
        calc t.endDecode.operands
            = t.operands := endDecode_operands t
          _ = (s.received bytes).operands := stripRx_operands ht
          _ = s.operands := received_operands s bytes

theorem attemptFailed_operands (s : State) (cause : ErrCode) (tp : Byte) :
    (s.attemptFailed cause tp).operands = s.operands := retryHead_operands _

theorem answerWrsr_operands (r : TpResult) (s : State) : (answerWrsr r s).operands = s.operands := by
  cases r with
  | fail e => exact attemptFailed_operands s _ _
  | ok bytes =>
    simp only [answerWrsr]
    split
    · exact receive_operands s bytes
    · exact (attemptFailed_operands _ _ _).trans (receive_operands s bytes)

theorem tpResult_operands {r : TpResult} (h : tpResult r s = .next t) : t.operands = s.operands := by
  obtain ⟨-, ⟨-, rfl⟩ | ⟨-, ⟨-, rfl⟩ | ⟨-, rfl⟩ | ⟨-, rfl⟩ | ⟨-, rfl⟩⟩⟩ := tpResult_next h
  · rfl
  · exact answerReq_operands r s
  · exact answerRdhr_operands r s
  · exact answerWrsr_operands r s
  · exact answerReq_operands r s

/-- No command's body writes an operand or configuration register or VALBUF. -/
theorem CommandBody.operands {c : BitVec 4} {body : State → State} (hbody : CommandBody c body) (s : State) :
    (body s).operands = s.operands := by
  cases hbody with
  | bldf | bldv | crcg | illegal | wrmr => rfl
  | appt =>
    unfold apptBody
    split <;> rfl
  | valt =>
    unfold valtBody
    split <;> exact judgeRx_operands s
  | strp =>
    unfold strpBody
    split
    · split
      next t ht =>
        change t.operands = s.operands
        exact stripRx_operands ht
      next => rfl
    · rfl
  | decd =>
    unfold decdBody
    split
    · exact endDecode_operands s
    · rfl
  | req =>
    unfold reqBody
    split <;> rfl
  | rdhr =>
    unfold rdhrBody
    split <;> rfl
  | wrsr => exact retryHead_operands _

theorem command_operands {c : BitVec 4} {body : State → State} (hbody : CommandBody c body) (s : State) :
    (s.command c body).operands = s.operands := by
  cases hp : s.phase with
  | await =>
    rw [command_await hp]
    rfl
  | idle =>
    rw [command_idle hp]
    exact hbody.operands _

/-- Settles O9: commands and arriving frames keep them; the DataType rows, which write OP_CTRL, are left out. -/
theorem commandsKeepOperandsAndConfiguration : Obligations.CommandsKeepOperandsAndConfiguration := by
  intro i s t hi ht
  refine operands_eq_iff.mp ?_
  cases rowKind i with
  | command _ hbody run =>
    obtain rfl : s.command _ _ = t := by simpa [run] using ht
    exact command_operands hbody s
  | sequence _ hbody run =>
    obtain rfl : (s.command _ _).command _ _ = t := by simpa [run] using ht
    exact (command_operands .appt _).trans (command_operands hbody s)
  | frame _ run => exact tpResult_operands ((run s).symm.trans ht)
  | dtype hfmt _ => simp [Instr.isDtype, hfmt] at hi

end Sys2Proof.Machine
end

section
/-! PROOFS. The registers at reset (R34), the packed registers as numbers (R16, R19, R28), and the DataType rows (R72). -/

namespace Sys2Proof.Machine

/-- Settles O1: each register of the reset state, entry by entry of R34's table. -/
theorem resetGivesTheTable : Obligations.ResetGivesTheTable := by
  unfold Obligations.ResetGivesTheTable
  and_intros <;> rfl

/-- STATUS holds BUSY and ST and nothing else (R19). -/
theorem status_toNat (s : State) : s.status.toNat = (if s.phase = .await then 1 else 0) + 2 * s.st.num.toNat := by
  cases hp : s.phase <;> cases hst : s.st <;> simp [State.status, hp, hst, Phase.bit, St.num]

/-- RXFLAGS holds the two receive flags (R28, R29). -/
theorem rxflags_toNat (s : State) : s.rxflags.toNat = s.rxValid.toNat + 2 * s.payValid.toNat := by
  cases hv : s.rxValid <;> cases hp : s.payValid <;> simp [State.rxflags, hv, hp]

/-- OP_CTRL's number holds its fields: writing it back loses nothing (R16, R192). -/
theorem OpCtrl.ofNum_opCtrlWord (retryEn xform : Bool) (dtype : BitVec 3) :
    OpCtrl.ofNum (opCtrlWord retryEn xform dtype) = { retryEn := retryEn, xform := xform, dtype := dtype } := by
  revert retryEn xform dtype
  decide

/-- Settles O56: the numbers by evaluation, the packed registers by their sums. -/
theorem packedRegisterNumbers : Obligations.PackedRegisterNumbers :=
  ⟨by decide, by decide, by decide, by decide, fun s =>
    ⟨status_toNat s, rxflags_toNat s, opCtrlWord_toNat _ _ _, OpCtrl.ofNum_opCtrlWord _ _ _⟩⟩

/-- A DataType row's write of OP_CTRL while idle (R192). -/
theorem writeOpCtrl_idle {s : State} (h : s.phase = .idle) (retryEn xform : Bool) (dtype : BitVec 3) :
    s.writeOpCtrl retryEn xform dtype = { s with
      opCtrl := { retryEn := retryEn, xform := xform, dtype := dtype }, replies := s.replies ++ [.accepted] } := by
  have hreg : Reg.ofIndex 0x05 = some .opCtrl := rfl
  simp [State.writeOpCtrl, regWrite, h, hreg, Reg.writable, State.putReg, OpCtrl.ofNum_opCtrlWord, State.answerHost]

theorem writeOpCtrl_await {s : State} (h : s.phase = .await) (retryEn xform : Bool) (dtype : BitVec 3) :
    s.writeOpCtrl retryEn xform dtype = { s with replies := s.replies ++ [.rejected] } := by
  simp [State.writeOpCtrl, regWrite, h, State.answerHost]

/-- Settles O59: each of the eight rows is the write of its tag. -/
theorem dataTypeRowsSelectTheTag : Obligations.DataTypeRowsSelectTheTag := by
  intro s retryEn xform i tag hrow
  have hexec : exec i s = .next (s.writeOpCtrl retryEn xform tag) := by
    simp only [List.mem_cons, Prod.mk.injEq, List.not_mem_nil, or_false] at hrow
    obtain ⟨rfl, rfl⟩ | ⟨rfl, rfl⟩ | ⟨rfl, rfl⟩ | ⟨rfl, rfl⟩ | ⟨rfl, rfl⟩ | ⟨rfl, rfl⟩ | ⟨rfl, rfl⟩ | ⟨rfl, rfl⟩ := hrow <;>
      rfl
  rw [hexec]
  exact ⟨fun h => by rw [writeOpCtrl_idle h], fun h => by rw [writeOpCtrl_await h]⟩

end Sys2Proof.Machine
end

section
/-! PROOFS. The command port while busy (R52, R196). -/

namespace Sys2Proof.Machine

/-- An instruction with a command code runs one body under that code, whatever the state (R70, R71). -/
theorem exec_of_isCommand {i : Instr} (h : i.isCommand = true) :
    ∃ c body, CommandBody c body ∧ ∀ s, exec i s = .next (s.command c body) := by
  have hfmt : (encode i).1 = .cmd4 := eq_of_beq h
  cases rowKind i with
  | command _ hbody run => exact ⟨_, _, hbody, run⟩
  | sequence hpseudo _ _ => simp [hfmt] at hpseudo
  | frame hf _ => simp [Instr.isFrame, hfmt] at hf
  | dtype hdtype _ => simp [hfmt] at hdtype

/-- Settles O52: in AWAIT the command port only emits the rejection, whatever the body; the prologue is `accept`. -/
theorem commandsAreRejectedWhileAwaiting : Obligations.CommandsAreRejectedWhileAwaiting := by
  refine ⟨fun i s hi hp => ?_, fun code s => ⟨rfl, rfl, rfl, rfl, rfl, rfl, rfl, rfl, rfl, rfl⟩⟩
  obtain ⟨c, body, -, run⟩ := exec_of_isCommand hi
  rw [run, command_await hp]
  rfl

end Sys2Proof.Machine
end

section
/-! PROOFS. What a step of a command adds to the trace: one `done`, or one `tp_submit`, and PHASE and ST accordingly (R53, R163,
R178, R212, R242). -/

namespace Sys2Proof.Machine

/-- A step from the trace `before` ended its command in `t`: one `done` and no submit, PHASE = IDLE and ST written (R212). -/
def EndsOnce (before : List Event) (t : State) : Prop :=
  ∃ events, t.trace = before ++ events ∧
    t.phase = .idle ∧ t.st ≠ .none ∧ doneCount events = 1 ∧ submitCount events = 0

/-- A step from the trace `before` put its command in flight in `t`: one submit and no `done`, PHASE = AWAIT and ST = NONE
(R53). -/
def SubmitsOnce (before : List Event) (t : State) : Prop :=
  ∃ events, t.trace = before ++ events ∧
    t.phase = .await ∧ t.st = .none ∧ doneCount events = 0 ∧ submitCount events = 1

/-! ### A log record counts as neither -/

theorem EndsOnce.of_log {before : List Event} {r : LogRecord} {t : State} (h : EndsOnce (before ++ [.log r]) t) :
    EndsOnce before t := by
  obtain ⟨events, htrace, hphase, hst, hdone, hsubmit⟩ := h
  refine ⟨.log r :: events, by simpa using htrace, hphase, hst, ?_, ?_⟩
  · simpa [doneCount] using hdone
  · simpa [submitCount] using hsubmit

theorem SubmitsOnce.of_log {before : List Event} {r : LogRecord} {t : State} (h : SubmitsOnce (before ++ [.log r]) t) :
    SubmitsOnce before t := by
  obtain ⟨events, htrace, hphase, hst, hdone, hsubmit⟩ := h
  refine ⟨.log r :: events, by simpa using htrace, hphase, hst, ?_, ?_⟩
  · simpa [doneCount] using hdone
  · simpa [submitCount] using hsubmit

namespace State

variable (s : State)

/-! ### The operations that emit, and those that do not -/

theorem endOk_endsOnce : EndsOnce s.trace s.endOk := ⟨[.doneOk], rfl, rfl, by simp, rfl, rfl⟩

theorem raise_endsOnce (e : ErrCode) : EndsOnce s.trace (s.raise e) := ⟨[.doneErr], rfl, rfl, by simp, rfl, rfl⟩

theorem submit_submitsOnce {s : State} (h : s.st = .none) : SubmitsOnce s.trace s.submit :=
  ⟨[.tpSubmit s.mem.txbuf], rfl, rfl, h, rfl, rfl⟩

theorem judgeRx_trace : s.judgeRx.trace = s.trace := by
  obtain ⟨-, heq⟩ | ⟨-, -, heq⟩ | ⟨-, -, heq⟩ := judgeRx_cases s <;> rw [heq]

theorem receive_trace (bytes : List Byte) : (s.receive bytes).trace = s.trace := by rw [receive_eq]

theorem receive_st (bytes : List Byte) : (s.receive bytes).st = s.st := by rw [receive_eq]

theorem received_trace (bytes : List Byte) : (s.received bytes).trace = s.trace := receive_trace s bytes

theorem stripRx_trace {s t : State} (h : s.stripRx = some t) : t.trace = s.trace := by
  obtain ⟨-, rfl⟩ := stripRx_some h
  rfl

theorem decodePayload_trace {s t : State} (h : s.decodePayload = .ok t) : t.trace = s.trace := by
  obtain ⟨-, rfl⟩ | ⟨_, -, -, -, rfl⟩ := decodePayload_ok h <;> rfl

theorem endDecode_endsOnce : EndsOnce s.trace s.endDecode := by
  unfold endDecode
  split
  next t ht => exact decodePayload_trace ht ▸ t.endOk_endsOnce
  next e _ => exact s.raise_endsOnce e

/-! ### The retry loop -/

theorem exhaust_endsOnce : EndsOnce s.trace s.exhaust := by
  unfold exhaust
  split <;> exact raise_endsOnce _ _

theorem startAttempt_submitsOnce {s : State} (h : s.st = .none) : SubmitsOnce s.trace s.startAttempt := by
  rw [startAttempt_eq]
  exact ⟨[.tpSubmit s.firstBuild.mem.txbuf], rfl, rfl, (firstBuild_fields s).1.trans h, rfl, rfl⟩

/-- The guard chooses between the two: the budget is used up, or the next attempt is submitted (R153, R163). -/
theorem retryHead_endsOnce_or_submitsOnce {s : State} (h : s.st = .none) :
    EndsOnce s.trace s.retryHead ∨ SubmitsOnce s.trace s.retryHead := by
  obtain ⟨-, heq⟩ | ⟨-, heq⟩ := retryHead_cases s <;> rw [heq]
  · exact .inl s.exhaust_endsOnce
  · exact .inr (startAttempt_submitsOnce h)

/-- A failed attempt adds its log record before it goes back to `retry_head` (R156). -/
theorem attemptFailed_endsOnce_or_submitsOnce {s : State} (h : s.st = .none) (cause : ErrCode) (tp : Byte) :
    EndsOnce s.trace (s.attemptFailed cause tp) ∨ SubmitsOnce s.trace (s.attemptFailed cause tp) := by
  unfold attemptFailed
  exact (retryHead_endsOnce_or_submitsOnce (by exact h)).imp .of_log .of_log

end State

open State

variable {s t : State}

/-! ### An accepted command -/

/-- The body of a command code ends the command or submits its frame, and nothing else (R53, R212). -/
theorem CommandBody.endsOnce_or_submitsOnce {c : BitVec 4} {body : State → State} (hbody : CommandBody c body)
    (hst : s.st = .none) : EndsOnce s.trace (body s) ∨ SubmitsOnce s.trace (body s) := by
  cases hbody with
  | bldf | bldv | crcg => exact .inl (endOk_endsOnce _)
  | illegal => exact .inl (raise_endsOnce _ _)
  | appt =>
    left
    unfold apptBody
    split
    · exact endOk_endsOnce _
    all_goals exact raise_endsOnce _ _
  | valt =>
    left
    unfold valtBody
    rw [← judgeRx_trace s]
    split
    · exact endOk_endsOnce _
    · exact raise_endsOnce _ _
  | strp =>
    left
    unfold strpBody
    split
    · split
      next t ht => exact stripRx_trace ht ▸ t.endOk_endsOnce
      next => exact raise_endsOnce _ _
    · exact raise_endsOnce _ _
  | decd =>
    left
    unfold decdBody
    split
    · exact s.endDecode_endsOnce
    · exact raise_endsOnce _ _
  | req =>
    unfold reqBody
    split
    · exact .inr (submit_submitsOnce hst)
    all_goals exact .inl (raise_endsOnce _ _)
  | rdhr =>
    unfold rdhrBody
    split
    · exact .inr (submit_submitsOnce hst)
    · exact .inl (raise_endsOnce _ _)
  | wrsr => exact retryHead_endsOnce_or_submitsOnce hst
  | wrmr => exact .inr (submit_submitsOnce hst)

/-- The prologue clears ST and emits nothing, so an accepted command's step is its body's (R196). -/
theorem exec_endsOnce_or_submitsOnce {i : Instr} (hi : i.isCommand = true) (hp : s.phase = .idle)
    (ht : exec i s = .next t) : EndsOnce s.trace t ∨ SubmitsOnce s.trace t := by
  obtain ⟨c, body, hbody, run⟩ := exec_of_isCommand hi
  obtain rfl : body (s.accept c) = t := by simpa [run, command_idle hp] using ht
  exact hbody.endsOnce_or_submitsOnce (s := s.accept c) rfl

/-! ### The transport's answer -/

/-- REQ and WRMR submit once: every answer ends them (R178). -/
theorem answerReq_endsOnce (r : TpResult) (s : State) : EndsOnce s.trace (answerReq r s) := by
  cases r with
  | fail e => exact raise_endsOnce _ _
  | ok bytes =>
    simp only [answerReq]
    rw [← received_trace s bytes]
    split
    · exact endOk_endsOnce _
    · exact raise_endsOnce _ _

/-- RDHR submits once: every answer ends it, with the first failure of its three steps if there is one (R178, R187). -/
theorem answerRdhr_endsOnce (r : TpResult) (s : State) : EndsOnce s.trace (answerRdhr r s) := by
  cases r with
  | fail e => exact raise_endsOnce _ _
  | ok bytes =>
    simp only [answerRdhr]
    rw [← received_trace s bytes]
    split
    · exact raise_endsOnce _ _
    · split
      next => exact raise_endsOnce _ _
      next t ht => exact stripRx_trace ht ▸ t.endDecode_endsOnce

/-- WRSR alone may submit again: a success ends it, a failure goes back to `retry_head` (R155, R156, R163). -/
theorem answerWrsr_endsOnce_or_submitsOnce (hst : s.st = .none) (r : TpResult) :
    EndsOnce s.trace (answerWrsr r s) ∨ SubmitsOnce s.trace (answerWrsr r s) := by
  cases r with
  | fail e => exact attemptFailed_endsOnce_or_submitsOnce hst _ _
  | ok bytes =>
    simp only [answerWrsr]
    rw [← receive_trace s bytes]
    split
    · exact .inl (endOk_endsOnce _)
    · exact attemptFailed_endsOnce_or_submitsOnce ((receive_st s bytes).trans hst) _ _

theorem tpResult_endsOnce_or_submitsOnce (h : s.Inv) (hp : s.phase = .await) {r : TpResult}
    (ht : tpResult r s = .next t) : EndsOnce s.trace t ∨ (s.curCmd = 0x9#4 ∧ SubmitsOnce s.trace t) := by
  obtain ⟨-, hawait, -, -⟩ := inv_iff.mp h
  obtain ⟨-, -, hst⟩ := hawait hp
  obtain ⟨-, ⟨hidle, -⟩ | ⟨-, ⟨-, rfl⟩ | ⟨-, rfl⟩ | ⟨hc, rfl⟩ | ⟨-, rfl⟩⟩⟩ := tpResult_next ht
  · simp [hp] at hidle
  · exact .inl (answerReq_endsOnce r s)
  · exact .inl (answerRdhr_endsOnce r s)
  · exact (answerWrsr_endsOnce_or_submitsOnce hst r).imp_right fun hsubmit => ⟨hc, hsubmit⟩
  · exact .inl (answerReq_endsOnce r s)

/-- Settles O53: command by command at its acceptance, then at the transport's answer, where WRSR alone has a second way. -/
theorem oneDoneOrOneSubmitPerStep : Obligations.OneDoneOrOneSubmitPerStep := by
  refine ⟨fun i s t hi hp ht => ?_, fun s t r h hp ht => ?_⟩
  · obtain ⟨events, htrace, hends⟩ | ⟨events, htrace, hsubmits⟩ := exec_endsOnce_or_submitsOnce hi hp ht
    · exact ⟨events, htrace, .inl hends⟩
    · exact ⟨events, htrace, .inr hsubmits⟩
  · obtain ⟨events, htrace, hends⟩ | ⟨hc, events, htrace, hsubmits⟩ := tpResult_endsOnce_or_submitsOnce h hp ht
    · exact ⟨events, htrace, .inl hends⟩
    · exact ⟨events, htrace, .inr ⟨hc, hsubmits⟩⟩

end Sys2Proof.Machine
end

section
/-! PROOFS. The decoder reads back what the encoder writes, format by format (R60 to R72, R191). -/

namespace Sys2Proof

open Sys2Proof.Machine

/-- A sealed sequence ends with the trailer of its other bytes (R60, R66). -/
@[simp] theorem trailerFits_appendTrailer (s : List Byte) : trailerFits (appendTrailer s) = true := by
  simp [trailerFits]

theorem decodeFixed_wireFixed (a f : Byte) (p q : Half) : decodeFixed (wireFixed a f p q) = .ok (fixedRow a f p q) := by
  have hfits : trailerFits (wireFixed a f p q) = true := trailerFits_appendTrailer _
  simp only [wireFixed, appendTrailer, buildFixed, be16, le16, List.cons_append, List.nil_append] at hfits ⊢
  simp [decodeFixed, hfits]

/-- The count and byteCount fields hold a count of at most 127 without loss, so the decoder finds the values' end (R63). -/
theorem decodeVar_wireVar (a f : Byte) (s : Half) {vals : List Half} (h : vals.length ≤ 127) :
    decodeVar (wireVar a f s vals) = .ok (varRow a f s vals) := by
  have hfits : trailerFits (wireVar a f s vals) = true := trailerFits_appendTrailer _
  have hcount : (BitVec.ofNat 16 vals.length).toNat = vals.length := by simp; omega
  have hvals : (vals.flatMap be16).length = 2 * vals.length := length_flatMap_be16 vals
  simp only [wireVar, appendTrailer, buildVar, be16, List.cons_append, List.nil_append] at hfits ⊢
  simp [decodeVar, hfits, hcount, hvals, Config.valMax, h]

/-- The payload ends two bytes before the frame does (R64). -/
theorem decodeRespRead_wireRespRead (a f n : Byte) {payload : List Byte} (h : payload.length + 5 ≤ 263) :
    decodeRespRead (wireRespRead a f n payload) = .ok (.frameRespRead a f n payload) := by
  have hfits : trailerFits (wireRespRead a f n payload) = true := trailerFits_appendTrailer _
  simp only [wireRespRead, appendTrailer, List.cons_append, List.nil_append] at hfits ⊢
  simp [decodeRespRead, hfits, Config.frameMax]
  omega

theorem decodeAnyFrame_wireAny (low high : Byte) {body : List Byte} (h : body.length + 2 ≤ 263) :
    decodeAnyFrame (wireAny body low high) = .ok (.trailer body low high) := by
  simp [decodeAnyFrame, wireAny, Config.frameMax]
  omega

/-- The low byte of an OP_CTRL value holds its three fields (R16, R72). -/
theorem decode_encodeOpCtrl (r x : Bool) (d : BitVec 3) :
    decode (encodeOpCtrl r x d).1 (encodeOpCtrl r x d).2 = .ok (dtypeRow r x d) := by
  revert r x d
  decide

/-- A general FIXED row holds no function code that has its own row (R67). -/
theorem fixedRow_of_general (a : Byte) {f : Byte} (p q : Half) (h : ownFixedRow f = false) :
    fixedRow a f p q = .frameFixed a f p q := by
  obtain ⟨hread, hwrite⟩ : f ≠ fnReadHolding ∧ f ≠ fnWriteSingle := by
    simpa [ownFixedRow, fnReadHolding, fnWriteSingle] using h
  simp [fixedRow, hread, hwrite]

/-- A general VAR row does not hold the function code that has its own row (R67). -/
theorem varRow_of_general (a : Byte) {f : Byte} (s : Half) (vals : List Half) (h : ownVarRow f = false) :
    varRow a f s vals = .frameVar a f s vals := by
  have hwrite : f ≠ fnWriteMultiple := by simpa [ownVarRow, fnWriteMultiple] using h
  simp [varRow, hwrite]

/-- Settles O11: row by row, each by the round trip of its format. -/
theorem decodeEncodeRoundTrip : Obligations.DecodeEncodeRoundTrip := by
  intro i h
  cases i with
  | bldf | bldv | appt | valt | strp | decd | req | rdhr | wrsr | wrmr | crcg => rfl
  | reserved0 | reservedC | reservedD | reservedE | reservedF => rfl
  | mkfixed | mkvar => rfl
  | frameFixed a f p q =>
    have hgeneral : ownFixedRow f = false := by simpa [Instr.wellFormed] using h
    exact (decodeFixed_wireFixed a f p q).trans (congrArg _ (fixedRow_of_general a p q hgeneral))
  | frameReadHolding a s n => exact decodeFixed_wireFixed a fnReadHolding s n
  | frameWriteSingle a r v => exact decodeFixed_wireFixed a fnWriteSingle r v
  | frameWriteMultiple a s vals => exact decodeVar_wireVar a fnWriteMultiple s (of_decide_eq_true h)
  | frameVar a f s vals =>
    obtain ⟨hgeneral, hlen⟩ : ownVarRow f = false ∧ vals.length ≤ 127 := by simpa [Instr.wellFormed] using h
    exact (decodeVar_wireVar a f s hlen).trans (congrArg _ (varRow_of_general a s vals hgeneral))
  | frameRespRead a f n payload => exact decodeRespRead_wireRespRead a f n (of_decide_eq_true h)
  | trailer body low high => exact decodeAnyFrame_wireAny low high (of_decide_eq_true h)
  | dtypeU16 r x => exact decode_encodeOpCtrl r x 0#3
  | dtypeS16 r x => exact decode_encodeOpCtrl r x 1#3
  | dtypeU32 r x => exact decode_encodeOpCtrl r x 2#3
  | dtypeS32 r x => exact decode_encodeOpCtrl r x 3#3
  | dtypeF32 r x => exact decode_encodeOpCtrl r x 4#3
  | dtypeRaw r x => exact decode_encodeOpCtrl r x 5#3
  | dtypeReserved6 r x => exact decode_encodeOpCtrl r x 6#3
  | dtypeReserved7 r x => exact decode_encodeOpCtrl r x 7#3

/-- Settles O13: word by word, by evaluation of the decoder. -/
theorem tableWordsDecode : Obligations.TableWordsDecode := by
  unfold Obligations.TableWordsDecode
  and_intros <;> decide +kernel

end Sys2Proof
end

section
/-! PROOFS. Where each field of a wire frame stands (R61, R63, R66, R68). -/

namespace Sys2Proof.Machine

/-- The trailer is the two bytes after the sequence it seals, the code's low byte first (R66). -/
theorem getElem?_appendTrailer (s : List Byte) :
    (appendTrailer s)[s.length]? = some (lo8 (crc16 s)) ∧ (appendTrailer s)[s.length + 1]? = some (hi8 (crc16 s)) := by
  constructor <;> simp [appendTrailer, le16]

/-- Value `i` of a list of values is its bytes `2i` and `2i + 1`, high byte first (R68). -/
theorem getElem?_flatMap_be16 {vals : List Half} {i : Nat} {v : Half} (h : vals[i]? = some v) :
    (vals.flatMap be16)[2 * i]? = some (hi8 v) ∧ (vals.flatMap be16)[2 * i + 1]? = some (lo8 v) := by
  induction vals generalizing i with
  | nil => simp at h
  | cons w rest ih =>
    cases i with
    | zero =>
      obtain rfl : w = v := by simpa using h
      exact ⟨rfl, rfl⟩
    | succ i => exact ih (by simpa using h)

/-- The seven header bytes of a VAR frame, then the values and the trailer (R63). -/
theorem wireVar_eq (a f : Byte) (s : Half) (vals : List Half) :
    wireVar a f s vals =
      a :: f :: hi8 s :: lo8 s :: hi8 (BitVec.ofNat 16 vals.length) :: lo8 (BitVec.ofNat 16 vals.length) ::
        BitVec.ofNat 8 (2 * vals.length) :: (vals.flatMap be16 ++ le16 (crc16 (buildVar a f s vals))) := rfl

theorem wireVar_value {a f : Byte} {s : Half} {vals : List Half} {i : Nat} {v : Half} (h : vals[i]? = some v) :
    (wireVar a f s vals)[7 + 2 * i]? = some (hi8 v) ∧ (wireVar a f s vals)[8 + 2 * i]? = some (lo8 v) := by
  obtain ⟨hhi, hlo⟩ := getElem?_flatMap_be16 h
  obtain ⟨hi, -⟩ := List.getElem?_eq_some_iff.mp h
  have hlen := length_flatMap_be16 vals
  rw [wireVar_eq, show 7 + 2 * i = 2 * i + 7 by omega, show 8 + 2 * i = 2 * i + 1 + 7 by omega]
  simp only [List.getElem?_cons_succ]
  rw [List.getElem?_append_left (by omega), List.getElem?_append_left (by omega)]
  exact ⟨hhi, hlo⟩

theorem wireVar_trailer (a f : Byte) (s : Half) (vals : List Half) :
    (wireVar a f s vals)[7 + 2 * vals.length]? =
        some (lo8 (crc16 ((wireVar a f s vals).take (7 + 2 * vals.length)))) ∧
      (wireVar a f s vals)[8 + 2 * vals.length]? =
        some (hi8 (crc16 ((wireVar a f s vals).take (7 + 2 * vals.length)))) := by
  have hlen := length_buildVar a f s vals
  have htake : (wireVar a f s vals).take (7 + 2 * vals.length) = buildVar a f s vals := hlen ▸ take_appendTrailer _
  obtain ⟨hlo, hhi⟩ := getElem?_appendTrailer (buildVar a f s vals)
  rw [htake, ← hlen, show 8 + 2 * vals.length = (buildVar a f s vals).length + 1 by omega]
  exact ⟨hlo, hhi⟩

/-- Settles O26: the header bytes by position, the values and the trailer by their offsets; a count of at most 127 fits its
one byte, and twice it fits the byteCount. -/
theorem wireFrameLayouts : Obligations.WireFrameLayouts := by
  refine ⟨fun a f p q => ⟨rfl, rfl, rfl, rfl, rfl, rfl, rfl, rfl, rfl⟩, ?_⟩
  rintro a f s vals _ rfl hmax
  have hzero : hi8 (BitVec.ofNat 16 vals.length) = 0#8 := by
    apply BitVec.eq_of_toNat_eq
    simp [hi8_toNat]
    omega
  have hcount : lo8 (BitVec.ofNat 16 vals.length) = BitVec.ofNat 8 vals.length := by
    apply BitVec.eq_of_toNat_eq
    simp [lo8_toNat]
  have hbytes : (BitVec.ofNat 8 (2 * vals.length)).toNat = 2 * vals.length := by simp; omega
  obtain ⟨hlo, hhi⟩ := wireVar_trailer a f s vals
  exact ⟨length_wireVar a f s vals, rfl, rfl, rfl, rfl, congrArg some hzero, congrArg some hcount, congrArg some hbytes,
    fun i v hv => wireVar_value hv, hlo, hhi⟩

end Sys2Proof.Machine
end

section
/-! PROOFS. The wire-frame rows at the transport port: each is an arrival, and under REQ and WRMR a sealed frame is received
(R170, R174, R177, R189). -/

namespace Sys2Proof.Machine

variable {s : State}

theorem exec_of_isFrame {i : Instr} (h : i.isFrame = true) (s : State) : exec i s = tpResult (.ok (encode i).2) s := by
  cases rowKind i with
  | frame _ run => exact run s
  | command hfmt _ _ | sequence hfmt _ _ | dtype hfmt _ => simp [Instr.isFrame, hfmt] at h

/-- Settles O15: every row met at the transport port is the arrival of its bytes. -/
theorem frameRowsAreTransportAnswers : Obligations.FrameRowsAreTransportAnswers := fun s _ h => exec_of_isFrame h s

/-- The bytes of a wire-frame row are sealed; those of TRAILER are so when its two bytes are the code of its body (R66). -/
theorem encode_eq_appendTrailer {i : Instr} (hf : i.isFrame = true)
    (ht : ∀ body low high, i = .trailer body low high → [low, high] = le16 (crc16 body)) :
    ∃ body, (encode i).2 = appendTrailer body := by
  cases i with
  | frameFixed | frameReadHolding | frameWriteSingle | frameWriteMultiple | frameVar | frameRespRead => exact ⟨_, rfl⟩
  | trailer body low high => exact ⟨body, congrArg (body ++ ·) (ht body low high rfl)⟩
  | _ => cases hf

theorem bodyCrc_appendTrailer (body : List Byte) : bodyCrc (appendTrailer body) = crc16 body := (sealed_codes body).1

theorem foundCrc_appendTrailer (body : List Byte) : foundCrc (appendTrailer body) = crc16 body := (sealed_codes body).2

theorem validate_appendTrailer (body : List Byte) : validate (appendTrailer body) = .ok :=
  validate_ok_iff.mpr ⟨by simp, (bodyCrc_appendTrailer body).trans (foundCrc_appendTrailer body).symm⟩

theorem receive_appendTrailer (s : State) (body : List Byte) :
    s.receive (appendTrailer body) = { s with
      mem := s.mem.putRx (appendTrailer body), rxValid := true, payValid := false
      crcr := crc16 body, crcx := crc16 body } := by
  simp [receive_eq, validate_appendTrailer, bodyCrc_appendTrailer, foundCrc_appendTrailer]

theorem answerReq_valid {bytes : List Byte} (h : validate bytes = .ok) (s : State) :
    answerReq (.ok bytes) s = (s.received bytes).endOk := by
  simp only [answerReq, h]

/-- REQ and WRMR take an answer that fits alike (R189). -/
theorem tpResult_answerReq {r : TpResult} (hf : r.fits = true) (hp : s.phase = .await)
    (hc : s.curCmd = 0x7#4 ∨ s.curCmd = 0xA#4) : tpResult r s = .next (answerReq r s) :=
  hc.elim (tpResult_req hf hp) (tpResult_wrmr hf hp)

/-- Settles O60: the row's bytes are sealed, so they are received and found valid. -/
theorem frameRowsAreReceived : Obligations.FrameRowsAreReceived := by
  intro s i hp hc hf hw ht
  obtain ⟨body, hbody⟩ := encode_eq_appendTrailer hf ht
  have hfits : TpResult.fits (.ok (encode i).2) = true := decide_eq_true (length_encode_le_of_isFrame hf hw)
  have hcode : crc16 ((encode i).2.take ((encode i).2.length - 2)) = crc16 body := by
    rw [hbody]
    exact bodyCrc_appendTrailer body
  rw [exec_of_isFrame hf, tpResult_answerReq hfits hp hc, hcode, hbody, answerReq_valid (validate_appendTrailer body),
    State.received, receive_appendTrailer]
  rfl

end Sys2Proof.Machine
end

section
/-! PROOFS. RDHR's completion: validate, strip, decode (R131, R141, R176, R187). -/

namespace Sys2Proof.Machine

namespace State

variable {s : State} {bytes : List Byte}

/-- A response that is received and stripped: the payload window is open (R132, R187). -/
def opened (bytes : List Byte) (s : State) : State :=
  { s.received bytes with payLen := BitVec.ofNat 16 (bytes.length - 5), payValid := true }

theorem receive_mem (bytes : List Byte) (s : State) : (s.receive bytes).mem = s.mem.putRx bytes := by rw [receive_eq]

theorem receive_opCtrl (bytes : List Byte) (s : State) : (s.receive bytes).opCtrl = s.opCtrl := by rw [receive_eq]

theorem received_rxlen (bytes : List Byte) (s : State) : (s.received bytes).rxlen = bytes.length :=
  congrArg (·.rxbuf.length) (receive_mem bytes s)

theorem received_stripRx (h : 5 ≤ bytes.length) : (s.received bytes).stripRx = some (s.opened bytes) := by
  rw [stripRx, received_rxlen, if_neg (by omega)]
  rfl

theorem opened_mem : (s.opened bytes).mem = s.mem.putRx bytes := receive_mem bytes s

theorem opened_opCtrl : (s.opened bytes).opCtrl = s.opCtrl := receive_opCtrl bytes s

theorem opened_dataType : (s.opened bytes).dataType = DataType.ofTag s.opCtrl.dtype :=
  congrArg (fun c : OpCtrl => DataType.ofTag c.dtype) opened_opCtrl

/-- PAY_LEN has 16 bits, which the length of a whole frame buffer does not exceed (R29, R40). -/
theorem opened_payLen (h : bytes.length ≤ 263) : (s.opened bytes).payLen.toNat = bytes.length - 5 := by
  simp [opened]
  omega

/-- The window of an open response is what the strip keeps (R131, R132). -/
theorem opened_payload (h : bytes.length ≤ 263) : (s.opened bytes).payload = strip bytes := by
  rw [payload, opened_payLen h, opened_mem]
  rfl

theorem endDecode_bypass (h : s.opCtrl.xform = true) :
    s.endDecode = (s.putOut 0b1000#4 (s.payload.map zextByte)).endOk := by
  simp only [endDecode, decodePayload, h, if_true]

theorem endDecode_length_mismatch {d : DataType} (hx : s.opCtrl.xform = false) (hd : s.dataType = some d)
    (h : s.payLen.toNat % d.width ≠ 0) : s.endDecode = s.raise .decodeError := by
  simp [endDecode, decodePayload, hx, hd, h]

theorem endDecode_elements {d : DataType} (hx : s.opCtrl.xform = false) (hd : s.dataType = some d)
    (h : s.payLen.toNat % d.width = 0) :
    s.endDecode = (s.putOut (d.tag.setWidth 4) (d.elements s.payload)).endOk := by
  simp [endDecode, decodePayload, hx, hd, h]

end State

open State

variable {s : State} {bytes : List Byte}

theorem answerRdhr_mismatch (h : validate bytes = .crcMismatch) :
    answerRdhr (.ok bytes) s = (s.received bytes).raise .crcMismatch := by
  simp only [answerRdhr, h]

theorem answerRdhr_short (hv : validate bytes = .ok) (h : bytes.length < 5) :
    answerRdhr (.ok bytes) s = (s.received bytes).raise .decodeError := by
  have hstrip : (s.received bytes).stripRx = none := stripRx_none_iff.mpr ((received_rxlen bytes s).trans_lt h)
  simp only [answerRdhr, hv, hstrip]

theorem answerRdhr_opened (hv : validate bytes = .ok) (h : 5 ≤ bytes.length) :
    answerRdhr (.ok bytes) s = (s.opened bytes).endDecode := by
  simp only [answerRdhr, hv, received_stripRx h]

/-- The numbers and widths of R72's table are those of the tags. -/
theorem tag_and_width_of_mem {d : DataType} {tag : BitVec 3} {width : Nat}
    (h : (d, tag, width) ∈
      [(DataType.u16, 0#3, 2), (.s16, 1#3, 2), (.u32, 2#3, 4), (.s32, 3#3, 4), (.f32, 4#3, 4), (.raw, 5#3, 1)]) :
    tag = d.tag ∧ width = d.width := by
  simp only [List.mem_cons, Prod.mk.injEq, List.not_mem_nil, or_false] at h
  obtain ⟨rfl, rfl, rfl⟩ | ⟨rfl, rfl, rfl⟩ | ⟨rfl, rfl, rfl⟩ | ⟨rfl, rfl, rfl⟩ | ⟨rfl, rfl, rfl⟩ | ⟨rfl, rfl, rfl⟩ := h <;>
    exact ⟨rfl, rfl⟩

/-- Settles O38: the first of the three steps to fail ends the command, and else the decode does, with the elements of the
stripped bytes. -/
theorem rdhrCompletion : Obligations.RdhrCompletion := by
  intro s bytes hp hc hmax
  rw [tpResult_rdhr (r := .ok bytes) (decide_eq_true hmax) hp hc]
  refine ⟨fun hv => ?_, fun hv hlen => ?_, fun hv hlen hx => ?_, fun d tag width hmem hv hlen hx htag => ?_⟩
  · rw [answerRdhr_mismatch hv, ← s.receive_trace bytes]
    rfl
  · rw [answerRdhr_short hv hlen, ← s.receive_trace bytes]
    rfl
  · rw [answerRdhr_opened hv hlen, endDecode_bypass (by rwa [opened_opCtrl]), opened_payload hmax, State.putOut, opened_mem,
      ← s.receive_trace bytes]
    rfl
  · obtain ⟨rfl, rfl⟩ := tag_and_width_of_mem hmem
    have hx' : (s.opened bytes).opCtrl.xform = false := by rwa [opened_opCtrl]
    have hd : (s.opened bytes).dataType = some d := by rw [opened_dataType, htag, DataType.ofTag_tag]
    have hlen' := opened_payLen (s := s) hmax
    rw [answerRdhr_opened hv hlen]
    refine ⟨fun hwidth => ?_, fun hwidth => ?_⟩
    · rw [endDecode_length_mismatch hx' hd (by rwa [hlen']), ← s.receive_trace bytes]
      rfl
    · rw [endDecode_elements hx' hd (by rwa [hlen']), opened_payload hmax, State.putOut, opened_mem,
        ← s.receive_trace bytes]
      rfl

end Sys2Proof.Machine
end

section
/-! PROOFS. MKFIXED and MKVAR as their command sequence (R191), and the frames that the public operations submit (R67, R154, R186,
R188). -/

namespace Sys2Proof.Machine

variable {s : State}

/-- A builder that leaves its header open, then APPT: the header is sealed, with the `done` of both commands (R191). -/
theorem build_then_appt {c : BitVec 4} {body : State → State} {header : List Byte} (hp : s.phase = .idle)
    (hbody : body (s.accept c) = ((s.accept c).openTx header).endOk) :
    (s.command c body).command 0x3#4 apptBody = { s.accept 0x3#4 with
      mem := { s.mem with txbuf := appendTrailer header }, txst := .sealed, crcr := crc16 header, st := .ok
      trace := s.trace ++ [.doneOk, .doneOk] } := by
  rw [command_idle hp, hbody, command_idle rfl]
  simp [apptBody, State.openTx, State.sealTx, State.endOk, State.emit, State.accept, Memory.putTx, hp]

/-- Each command of a sequence is rejected in AWAIT (R196). -/
theorem command_command_await {c c' : BitVec 4} {body body' : State → State} (hp : s.phase = .await) :
    (s.command c body).command c' body' = { s with trace := s.trace ++ [.cmdReject, .cmdReject] } := by
  rw [command_await hp, command_await (by exact hp)]
  simp [State.emit]

/-- Settles O27: both builders leave their header open, which APPT seals. -/
theorem pseudoOperationsSealTheirFrame : Obligations.PseudoOperationsSealTheirFrame := fun _ =>
  ⟨fun hp => ⟨congrArg _ (command_command_await hp), congrArg _ (command_command_await hp)⟩,
    fun hp => ⟨congrArg _ (build_then_appt hp rfl), congrArg _ (build_then_appt hp rfl)⟩⟩

/-- Settles O41: each operation seals the frame of its function code and submits it. -/
theorem submittedFramesAreTableFrames : Obligations.SubmittedFramesAreTableFrames := by
  refine fun s hp => ⟨?_, ?_, ?_⟩
  · rintro _ ⟨⟩ husable
    have hbody : rdhrBody (s.accept 0x8#4) = ((s.accept 0x8#4).sealTx (s.fixedHeader fnReadHolding)).submit :=
      if_pos husable
    rw [command_idle hp, hbody]
    rfl
  · rintro _ ⟨⟩
    rw [command_idle hp]
    rfl
  · rintro _ ⟨⟩ hpos
    have hbody : wrsrBody (s.accept 0x9#4) = (s.accept 0x9#4).loadRetry.startAttempt := if_neg (not_le.mpr hpos)
    rw [command_idle hp, hbody, startAttempt_eq]
    rfl

end Sys2Proof.Machine
end

section
/-! PROOFS. BLDF and BLDV leave their header open in TXBUF (R100, R101, R103). -/

namespace Sys2Proof.Machine

variable {s : State}

/-- A builder replaces TXBUF by its header and changes nothing else but TXST, ST and the prologue's registers: its end writes
PHASE = IDLE, which an accepted command had already (R101, R103, R196). -/
theorem command_openTx {c : BitVec 4} {body : State → State} {header : List Byte} (hp : s.phase = .idle)
    (hbody : body (s.accept c) = ((s.accept c).openTx header).endOk) :
    s.command c body = { s.accept c with
      mem := { s.mem with txbuf := header }, txst := .open, st := .ok, trace := s.trace ++ [.doneOk] } := by
  rw [command_idle hp, hbody]
  simp [State.openTx, State.endOk, State.emit, State.accept, Memory.putTx, hp]

/-- Settles O24: the body opens the fixed header, whose two words stand high byte first. -/
theorem bldfBuildsTheFixedHeader : Obligations.BldfBuildsTheFixedHeader := fun _ hp =>
  congrArg _ (command_openTx hp rfl)

/-- Settles O25: the body opens the variable header, which is the bytes of R103 by definition. -/
theorem bldvBuildsTheVariableHeader : Obligations.BldvBuildsTheVariableHeader := fun s hp =>
  ⟨s.varHeader s.opFunc, congrArg _ (command_openTx hp rfl), rfl, length_buildVar ..⟩

end Sys2Proof.Machine
end

section
/-! PROOFS. The integrity code as a fold over bytes: a trailer brings a register that holds its value to zero, and no step
forgets the register or the byte, so neither does a whole sequence (R111 to R113, R119, R120). -/

namespace Sys2Proof.Machine

/-! ### The bit step and the byte step -/

/-- CRC_POLY feeds bits 15, 13 and 0 (R5, R112). -/
theorem crcPoly_getLsbD {k : Nat} (hk : k < 16) : Config.crcPoly.getLsbD k = decide (k = 15 ∨ k = 13 ∨ k = 0) := by
  revert k
  decide

theorem crcBit_getLsbD (c : Half) (k : Nat) :
    (crcBit c).getLsbD k = (c.getLsbD (k + 1) ^^ (c.getLsbD 0 && Config.crcPoly.getLsbD k)) := by
  unfold crcBit
  cases c.getLsbD 0 <;> simp [Nat.add_comm]

/-- Settles O16: the feedback reaches the three bits of CRC_POLY, and a shift brings no bit into bit 15. -/
theorem crcBitStepByBits : Obligations.CrcBitStepByBits := by
  refine ⟨fun c k hk => ?_, fun c b => rfl, by decide, by decide, by decide⟩
  rw [crcBit_getLsbD, crcPoly_getLsbD hk]
  split
  next h15 => simp [h15]
  next h15 =>
    split
    next h13 => simp [h13]
    next h13 =>
      split
      next h0 => simp [h0]
      next h0 => simp [h15, h13, h0]

/-- From one register, different bytes lead to different registers. -/
theorem crcByte_injective_byte {c : Half} {a b : Byte} (h : crcByte c a = crcByte c b) : a = b := by
  have hwide : a.setWidth 16 = b.setWidth 16 := (BitVec.xor_right_inj c).mp (crcBits_injective h)
  simpa using congrArg (BitVec.setWidth 8) hwide

/-- By one byte, different registers are led to different registers. -/
theorem crcByte_injective {c d : Half} {b : Byte} (h : crcByte c b = crcByte d b) : c = d :=
  (BitVec.xor_left_inj _).mp (crcBits_injective h)

/-! ### Sequences -/

/-- By one sequence, different registers are led to different registers. -/
theorem foldl_crcByte_injective {s : List Byte} {c d : Half} (h : s.foldl crcByte c = s.foldl crcByte d) : c = d := by
  induction s generalizing c d with
  | nil => exact h
  | cons b rest ih => exact crcByte_injective (ih h)

/-- Streaming (R113 b). -/
theorem crc16_append (s t : List Byte) : crc16 (s ++ t) = t.foldl crcByte (crc16 s) := List.foldl_append

/-- The first trailer byte clears the register's low half, so its eight bit steps are plain shifts, and the second byte is
what is left. -/
theorem foldl_le16_self (c : Half) : (le16 c).foldl crcByte c = 0 := by
  have hlow (i : Nat) (hi : i < 8) : (c ^^^ (lo8 c).setWidth 16).getLsbD i = false := by
    simp [lo8, hi, show i < 16 by omega]
  have hfirst : crcByte c (lo8 c) = (hi8 c).setWidth 16 := by
    rw [crcByte, crcBits_shift 8 _ hlow]
    ext i _
    suffices c.getLsbD (8 + i) = true → i < 8 by simpa [hi8, lo8]
    intro hbit
    have := BitVec.lt_of_getLsbD hbit
    omega
  have hsecond : crcByte ((hi8 c).setWidth 16) (hi8 c) = 0 := by
    rw [crcByte, BitVec.xor_self, crcBits_shift 8 _ (by simp)]
    rfl
  calc (le16 c).foldl crcByte c
      = crcByte (crcByte c (lo8 c)) (hi8 c) := rfl
    _ = 0 := by rw [hfirst, hsecond]

/-- A trailer brings the register to zero exactly when it is the register's value. -/
theorem foldl_le16_eq_zero_iff {c v : Half} : (le16 v).foldl crcByte c = 0 ↔ c = v := by
  refine ⟨fun h => ?_, fun h => h ▸ foldl_le16_self c⟩
  exact foldl_crcByte_injective (h.trans (foldl_le16_self v).symm)

/-- The zero residue (R113 c). -/
theorem crc16_appendTrailer (s : List Byte) : crc16 (appendTrailer s) = 0 :=
  (crc16_append s _).trans (foldl_le16_self _)

/-- A frame of two bytes or more is its body and the trailer found in it (R26, R117). -/
theorem take_append_foundCrc {f : List Byte} (h : 2 ≤ f.length) : f.take (f.length - 2) ++ le16 (foundCrc f) = f := by
  have hlast : (f.drop (f.length - 2)).length = 2 := by simp; omega
  obtain ⟨a, b, hab⟩ := List.length_eq_two.mp hlast
  obtain ⟨body, rfl⟩ : ∃ body, f = body ++ [a, b] := ⟨_, (hab ▸ List.take_append_drop (f.length - 2) f).symm⟩
  simp [foundCrc, u16le, le16]

/-- A whole frame is valid exactly when its residue is zero (R113 c, R117). -/
theorem validate_ok_iff_crc16_eq_zero {f : List Byte} (h : 2 ≤ f.length) : validate f = .ok ↔ crc16 f = 0 :=
  calc validate f = .ok
      ↔ bodyCrc f = foundCrc f := by simp [validate_ok_iff, h]
    _ ↔ (le16 (foundCrc f)).foldl crcByte (bodyCrc f) = 0 := foldl_le16_eq_zero_iff.symm
    _ ↔ crc16 f = 0 := by rw [bodyCrc, ← crc16_append, take_append_foundCrc h]

/-- Each step is linear in the register and the byte together, so a run over three sequences is; the third is zero bytes. -/
theorem foldl_zipWith_xor {s e : List Byte} (h : s.length = e.length) (a b z : Half) :
    (List.zipWith (fun x y => x ^^^ y) s e).foldl crcByte (a ^^^ b ^^^ z) =
      s.foldl crcByte a ^^^ e.foldl crcByte b ^^^ (List.replicate s.length 0#8).foldl crcByte z := by
  induction s generalizing e a b z with
  | nil =>
    obtain rfl : e = [] := List.length_eq_zero_iff.mp h.symm
    rfl
  | cons x s ih =>
    cases e with
    | nil => cases h
    | cons y e =>
      have hstep : crcByte (a ^^^ b ^^^ z) (x ^^^ y) = crcByte a x ^^^ crcByte b y ^^^ crcByte z 0#8 := by
        rw [← crcByte_xor, ← crcByte_xor, BitVec.xor_zero]
      simpa [hstep, List.replicate_succ] using ih (Nat.succ.inj h) (crcByte a x) (crcByte b y) (crcByte z 0#8)

/-- The affine law (R113 d): the three runs start from CRC_INIT, which is its own exclusive-or thrice. -/
theorem crc16_zipWith_xor {s e : List Byte} (h : s.length = e.length) :
    crc16 (List.zipWith (fun x y => x ^^^ y) s e) = crc16 s ^^^ crc16 e ^^^ crc16 (List.replicate s.length 0#8) := by
  have := foldl_zipWith_xor h Config.crcInit Config.crcInit Config.crcInit
  rwa [BitVec.xor_self, BitVec.zero_xor] at this

/-- Settles O17: the five laws by name, the check value by evaluation. -/
theorem crcAlgebra : Obligations.CrcAlgebra :=
  ⟨rfl, crc16_append, crc16_appendTrailer, fun _ => validate_ok_iff_crc16_eq_zero, fun _ _ => crc16_zipWith_xor,
    by decide +kernel⟩

/-! ### Single-byte changes and short frames -/

/-- The code tells a sequence from the same with one byte replaced: the byte steps differ and the rest does not bring them
together. -/
theorem eq_of_crc16_set {f : List Byte} {i : Nat} {a b : Byte} (hb : f[i]? = some b) (h : crc16 (f.set i a) = crc16 f) :
    a = b := by
  obtain ⟨hi, rfl⟩ := List.getElem?_eq_some_iff.mp hb
  have hf : f = f.take i ++ f[i] :: f.drop (i + 1) := by simp
  rw [List.set_eq_take_append_cons_drop, if_pos hi, crc16_append] at h
  conv at h => rhs; rw [hf, crc16_append]
  exact crcByte_injective_byte (foldl_crcByte_injective h)

/-- Settles O18: the sealed frame has residue zero, and a frame with one byte changed has another. -/
theorem singleByteChangeIsDetected : Obligations.SingleByteChangeIsDetected := by
  refine fun s => ⟨validate_appendTrailer s, fun i b d hb hd => ?_⟩
  cases hv : validate ((appendTrailer s).set i (b ^^^ d)) with
  | crcMismatch => rfl
  | ok =>
    have hzero := (validate_ok_iff_crc16_eq_zero (by simp)).mp hv
    have hsame : b ^^^ d = b := eq_of_crc16_set hb (hzero.trans (crc16_appendTrailer s).symm)
    exact absurd (by simpa using hsame) hd

theorem join16_eq_iff {h l : Byte} {v : Half} : join16 h l = v ↔ h = hi8 v ∧ l = lo8 v := by
  constructor
  · rintro rfl
    simp
  · rintro ⟨rfl, rfl⟩
    simp

/-- Settles O19: below two bytes there is no trailer, and two bytes are the trailer of the empty sequence. -/
theorem shortFramesValidation : Obligations.ShortFramesValidation := by
  refine ⟨rfl, fun _ => rfl, fun a b => ?_⟩
  calc validate [a, b] = .ok
      ↔ Config.crcInit = join16 b a := by simp [validate_ok_iff, bodyCrc, foundCrc, u16le, crc16]
    _ ↔ b = 0xFF#8 ∧ a = 0xFF#8 := eq_comm.trans join16_eq_iff
    _ ↔ a = 0xFF#8 ∧ b = 0xFF#8 := and_comm

end Sys2Proof.Machine
end

section
/-! PROOFS. CRCG, APPT and VALT, and the receive step: their results with their frame (R114, R116 to R118, R121, R176). -/

namespace Sys2Proof.Machine

variable {s : State}

/-! ### The two ends of a command -/

/-- `end_ok` of a command that stayed idle writes ST and emits, no more: PHASE is IDLE already. -/
theorem endOk_of_idle (h : s.phase = .idle) : s.endOk = { s with st := .ok, trace := s.trace ++ [.doneOk] } := by
  simp [State.endOk, State.emit, h]

/-- `raise` of a command that stayed idle writes ST and ERR_CODE and emits, no more. -/
theorem raise_of_idle (h : s.phase = .idle) (e : ErrCode) :
    s.raise e = { s with errCode := e, st := .err, trace := s.trace ++ [.doneErr] } := by
  simp [State.raise, State.emit, h]

/-! ### CRCG and APPT -/

/-- The zero residue of a sealed frame (R32 d, R113 c). -/
theorem crc16_txbuf_of_sealed (h : s.Inv) (hs : s.txst = .sealed) : crc16 s.mem.txbuf = 0 := by
  obtain ⟨-, htrailer⟩ := (State.inv_iff.mp h).1.trailed (.inl hs)
  rw [← List.take_append_drop (s.txlen - 2) s.mem.txbuf, htrailer]
  exact crc16_appendTrailer _

theorem exec_crcg_idle (hp : s.phase = .idle) : exec .crcg s = .next (crcgBody (s.accept 0xB#4)) :=
  congrArg Host.Outcome.next (command_idle hp)

/-- Settles O20: the body writes the code of TXBUF, whatever TXST is. -/
theorem crcgComputesTheCode : Obligations.CrcgComputesTheCode := by
  refine fun s hp => ⟨?_, fun hlen => ?_, crc16_txbuf_of_sealed⟩
  · rw [exec_crcg_idle hp, crcgBody, endOk_of_idle (by exact hp)]
    rfl
  · rw [List.length_eq_zero_iff.mp hlen]
    rfl

theorem exec_appt_idle (hp : s.phase = .idle) : exec .appt s = .next (apptBody (s.accept 0x3#4)) :=
  congrArg Host.Outcome.next (command_idle hp)

theorem apptBody_open (h : s.txst = .open) : apptBody s = (s.sealTx s.mem.txbuf).endOk := by
  simp only [apptBody, h]

theorem apptBody_refused (h : s.txst ≠ .open) : apptBody s = s.raise .preconditionError := by
  unfold apptBody
  split
  · contradiction
  all_goals rfl

/-- Settles O21: the body seals TXBUF, or raises before it writes anything. -/
theorem apptSealsAnOpenFrame : Obligations.ApptSealsAnOpenFrame := by
  refine fun s hp => ⟨fun h => ?_, fun h => ?_⟩ <;> rw [exec_appt_idle hp]
  · rw [apptBody_open (s := s.accept 0x3#4) h, endOk_of_idle (by exact hp)]
    rfl
  · rw [apptBody_refused (s := s.accept 0x3#4) h, raise_of_idle (by exact hp)]
    rfl

/-! ### The receive step -/

theorem validate_short {f : List Byte} (h : f.length < 2) : validate f = .crcMismatch :=
  validate_mismatch_iff.mpr fun h2 => absurd h2 (not_le.mpr h)

theorem validate_agree {f : List Byte} (h : 2 ≤ f.length) (hc : bodyCrc f = foundCrc f) : validate f = .ok :=
  validate_ok_iff.mpr ⟨h, hc⟩

theorem validate_disagree {f : List Byte} (hc : bodyCrc f ≠ foundCrc f) : validate f = .crcMismatch :=
  validate_mismatch_iff.mpr fun _ => hc

/-- Settles O34: the stored bytes are judged by `validate`. -/
theorem receiveStoresThenJudges : Obligations.ReceiveStoresThenJudges := by
  refine fun s bytes => ⟨fun h => ?_, fun h hc => ?_, fun h hc => ?_⟩ <;> rw [receive_eq]
  · have hv := validate_short h
    exact ⟨by simp [hv, h, Memory.putRx], hv⟩
  · have hv := validate_agree h hc
    exact ⟨by simp [hv, not_lt.mpr h, Memory.putRx, bodyCrc, foundCrc], hv⟩
  · have hv := validate_disagree hc
    exact ⟨by simp [hv, not_lt.mpr h, Memory.putRx, bodyCrc, foundCrc], hv⟩

/-! ### VALT -/

theorem judgeRx_short (h : s.mem.rxbuf.length < 2) : s.judgeRx = s.clearRxFlags := if_pos h

theorem judgeRx_agree (h : 2 ≤ s.mem.rxbuf.length) (hc : bodyCrc s.mem.rxbuf = foundCrc s.mem.rxbuf) :
    s.judgeRx = { s with crcr := bodyCrc s.mem.rxbuf, crcx := foundCrc s.mem.rxbuf, rxValid := true } :=
  (if_neg (not_lt.mpr h)).trans (if_pos hc)

theorem judgeRx_disagree (h : 2 ≤ s.mem.rxbuf.length) (hc : bodyCrc s.mem.rxbuf ≠ foundCrc s.mem.rxbuf) :
    s.judgeRx = { s with
      crcr := bodyCrc s.mem.rxbuf, crcx := foundCrc s.mem.rxbuf, rxValid := false, payValid := false } :=
  (if_neg (not_lt.mpr h)).trans (if_neg hc)

/-- VALT ends by the verdict on RXBUF, after the writes of the validation (R118). -/
theorem valtBody_ok (h : validate s.mem.rxbuf = .ok) : valtBody s = s.judgeRx.endOk := by
  simp only [valtBody, h]

theorem valtBody_mismatch (h : validate s.mem.rxbuf = .crcMismatch) : valtBody s = s.judgeRx.raise .crcMismatch := by
  simp only [valtBody, h]

theorem exec_valt_idle (hp : s.phase = .idle) : exec .valt s = .next (valtBody (s.accept 0x4#4)) :=
  congrArg Host.Outcome.next (command_idle hp)

/-- Settles O22: the three cases of the validation's writes, each with the end its verdict gives. -/
theorem valtJudgesTheReceivedFrame : Obligations.ValtJudgesTheReceivedFrame := by
  intro s hp
  rw [exec_valt_idle hp]
  refine ⟨fun h => ?_, fun h hc => ?_, fun h hc => ?_⟩
  · rw [valtBody_mismatch (s := s.accept 0x4#4) (validate_short h), judgeRx_short (by exact h),
      raise_of_idle (by exact hp)]
    rfl
  · rw [valtBody_ok (s := s.accept 0x4#4) (validate_agree h hc), judgeRx_agree (by exact h) (by exact hc),
      endOk_of_idle (by exact hp)]
    rfl
  · rw [valtBody_mismatch (s := s.accept 0x4#4) (validate_disagree hc), judgeRx_disagree (by exact h) (by exact hc),
      raise_of_idle (by exact hp)]
    rfl

/-! ### Commands issued twice -/

/-- A step has one answer, so known answers of an instruction and of the same again stand for any. -/
theorem block_eq_of_exec_twice {i : Instr} {t u t' u' : State} (ht : exec i s = .next t) (hu : exec i t = .next u)
    (ht' : exec i s = .next t') (hu' : exec i t' = .next u') (h : u'.block = t'.block) : u.block = t.block := by
  obtain rfl : t = t' := Host.Outcome.next.inj (ht.symm.trans ht')
  obtain rfl : u = u' := Host.Outcome.next.inj (hu.symm.trans hu')
  exact h

theorem exec_crcg_twice {t u : State} (hp : s.phase = .idle) (ht : exec .crcg s = .next t) (hu : exec .crcg t = .next u) :
    u.block = t.block :=
  block_eq_of_exec_twice ht hu (crcgComputesTheCode s hp).1 (crcgComputesTheCode _ (by exact hp)).1 rfl

/-- The second VALT finds the same bytes, so it meets the case of the first (R121). -/
theorem exec_valt_twice {t u : State} (hp : s.phase = .idle) (ht : exec .valt s = .next t) (hu : exec .valt t = .next u) :
    u.block = t.block := by
  obtain ⟨hshort, hagree, hdisagree⟩ := valtJudgesTheReceivedFrame s hp
  by_cases hlen : s.rxlen < 2
  · exact block_eq_of_exec_twice ht hu (hshort hlen) ((valtJudgesTheReceivedFrame _ (by exact hp)).1 (by exact hlen)) rfl
  rw [not_lt] at hlen
  by_cases hc : crc16 (s.mem.rxbuf.take (s.rxlen - 2)) = u16le s.mem.rxbuf (s.rxlen - 2)
  · exact block_eq_of_exec_twice ht hu (hagree hlen hc)
      ((valtJudgesTheReceivedFrame _ (by exact hp)).2.1 (by exact hlen) (by exact hc)) rfl
  · exact block_eq_of_exec_twice ht hu (hdisagree hlen hc)
      ((valtJudgesTheReceivedFrame _ (by exact hp)).2.2 (by exact hlen) (by exact hc)) rfl

/-- A frame that APPT sealed is OPEN no more (R116). -/
theorem exec_appt_twice {t u : State} (hp : s.phase = .idle) (ho : s.txst = .open) (ht : exec .appt s = .next t)
    (hu : exec .appt t = .next u) : u.errCode = .preconditionError := by
  rw [(apptSealsAnOpenFrame s hp).1 ho] at ht
  cases ht
  rw [(apptSealsAnOpenFrame _ (by exact hp)).2 (by simp)] at hu
  cases hu
  rfl

/-- Settles O23: command by command, from the result of each issued once and again on that. -/
theorem validationIsIdempotent : Obligations.ValidationIsIdempotent := fun _ _ _ hp =>
  ⟨exec_valt_twice hp, exec_crcg_twice hp, exec_appt_twice hp⟩

end Sys2Proof.Machine
end

section
/-! PROOFS. The elements of a payload, tag by tag (R134 to R138, R140). -/

namespace Sys2Proof.Machine

theorem u16be_toNat (p : List Byte) (k : Nat) :
    (u16be p k).toNat = (p.getD k 0#8).toNat * 256 + (p.getD (k + 1) 0#8).toNat := join16_toNat _ _

/-- Two's complement of a big-endian word: its high byte carries the sign (R136). -/
theorem u16be_toInt (p : List Byte) (k : Nat) :
    (u16be p k).toInt = (((p.getD k 0#8).toNat * 256 + (p.getD (k + 1) 0#8).toNat : Nat) : Int) -
      (if 128 ≤ (p.getD k 0#8).toNat then 65536 else 0) := by
  have hlow := (p.getD (k + 1) 0#8).isLt
  rw [BitVec.toInt_eq_toNat_cond, u16be_toNat]
  split <;> split <;> omega

@[simp] theorem zextByte_toNat (b : Byte) : (zextByte b).toNat = b.toNat :=
  BitVec.toNat_setWidth_of_le (by decide)

@[simp] theorem zextHalf_toNat (v : Half) : (zextHalf v).toNat = v.toNat :=
  BitVec.toNat_setWidth_of_le (by decide)

@[simp] theorem sextHalf_toInt (v : Half) : (sextHalf v).toInt = v.toInt :=
  BitVec.toInt_signExtend_of_le (by decide)

/-- Word `i` of a sequence starts at byte `2i`. -/
theorem eq_u16be_of_getElem?_words16 :
    ∀ {p : List Byte} {i : Nat} {v : Half}, (words16 p)[i]? = some v → v = u16be p (2 * i)
  | [], _, _, h => by simp [words16] at h
  | [_], _, _, h => by simp [words16] at h
  | _ :: _ :: _, 0, _, h => (Option.some.inj h).symm
  | _ :: _ :: rest, i + 1, _, h => eq_u16be_of_getElem?_words16 (p := rest) (i := i) h

/-- The 32-bit word `i` of a sequence starts at byte `4i` (R45, R137). -/
theorem toNat_of_getElem?_words32 :
    ∀ {p : List Byte} {i : Nat} {w : Word}, (words32 p)[i]? = some w →
      w.toNat = (p.getD (4 * i) 0#8).toNat * 2 ^ 24 + (p.getD (4 * i + 1) 0#8).toNat * 2 ^ 16 +
        (p.getD (4 * i + 2) 0#8).toNat * 2 ^ 8 + (p.getD (4 * i + 3) 0#8).toNat
  | [], _, _, h => by simp [words32] at h
  | [_], _, _, h => by simp [words32] at h
  | [_, _], _, _, h => by simp [words32] at h
  | [_, _, _], _, _, h => by simp [words32] at h
  | a :: b :: c :: d :: _, 0, _, h => Option.some.inj h ▸ join32_toNat a b c d
  | _ :: _ :: _ :: _ :: rest, i + 1, _, h => toNat_of_getElem?_words32 (p := rest) (i := i) h

/-- A 16-bit element is the extension of the word that its two bytes spell (R135, R136). -/
theorem eq_of_getElem?_map_words16 {extend : Half → Word} {p : List Byte} {i : Nat} {w : Word}
    (h : ((words16 p).map extend)[i]? = some w) : w = extend (u16be p (2 * i)) := by
  rw [List.getElem?_map, Option.map_eq_some_iff] at h
  obtain ⟨v, hv, rfl⟩ := h
  rw [eq_u16be_of_getElem?_words16 hv]

/-- A zero-extended byte keeps its number (R140). -/
theorem toNat_of_getElem?_map_zextByte {p : List Byte} {i : Nat} {w : Word} (h : (p.map zextByte)[i]? = some w) :
    w.toNat = (p.getD i 0#8).toNat := by
  rw [List.getElem?_map, Option.map_eq_some_iff] at h
  obtain ⟨b, hb, rfl⟩ := h
  rw [zextByte_toNat, List.getD_eq_getElem?_getD, hb, Option.getD_some]

/-- Each tag gives one element per its width of bytes (R134). -/
theorem DataType.length_elements (d : DataType) (p : List Byte) : (d.elements p).length = p.length / d.width := by
  cases d <;> simp [DataType.elements, DataType.width, length_words16, length_words32]

/-- Settles O31: the count and the value of element `i`, tag by tag. -/
theorem elementsOfEveryDataType : Obligations.ElementsOfEveryDataType := by
  refine fun p d _ => ⟨d.length_elements p, fun i w h => ?_⟩
  cases d with
  | u16 =>
    rw [eq_of_getElem?_map_words16 h]
    exact ⟨(zextHalf_toNat _).trans (u16be_toNat _ _), rfl⟩
  | s16 =>
    rw [eq_of_getElem?_map_words16 h]
    exact ⟨(sextHalf_toInt _).trans (u16be_toInt _ _), rfl⟩
  | u32 => exact ⟨toNat_of_getElem?_words32 h, rfl⟩
  | s32 => exact ⟨toNat_of_getElem?_words32 h, rfl⟩
  | f32 => exact toNat_of_getElem?_words32 h
  | raw => exact ⟨toNat_of_getElem?_map_zextByte h, rfl⟩

end Sys2Proof.Machine
end

section
/-! PROOFS. The strip, STRP and DECD: their results with their frame (R131, R132, R139, R141). -/

namespace Sys2Proof.Machine

variable {s : State}

/-! ### The strip and STRP -/

/-- Settles O28: `strip` is the slice of `L - 5` bytes from byte 3. -/
theorem stripKeepsThePayload : Obligations.StripKeepsThePayload := by
  refine ⟨fun f hlen => ⟨?_, fun i hi => ?_⟩, fun a f n p => ?_⟩
  · simp [strip, memRead]
    omega
  · rw [strip, memRead, List.getElem?_take_of_lt hi, List.getElem?_drop]
  · simp [strip, memRead, wireRespRead, appendTrailer]

theorem stripRx_open (h : 5 ≤ s.rxlen) :
    s.stripRx = some { s with payLen := BitVec.ofNat 16 (s.rxlen - 5), payValid := true } := if_neg (not_lt.mpr h)

theorem strpBody_refused (h : s.rxValid = false) : strpBody s = s.raise .preconditionError := by simp [strpBody, h]

theorem strpBody_short (hv : s.rxValid = true) (h : s.rxlen < 5) :
    strpBody s = { s with payValid := false }.raise .decodeError := by
  simp [strpBody, hv, stripRx_none_iff.mpr h]

theorem strpBody_open (hv : s.rxValid = true) (h : 5 ≤ s.rxlen) :
    strpBody s = { s with payLen := BitVec.ofNat 16 (s.rxlen - 5), payValid := true }.endOk := by
  simp [strpBody, hv, stripRx_open h]

theorem exec_strp_idle (hp : s.phase = .idle) : exec .strp s = .next (strpBody (s.accept 0x5#4)) :=
  congrArg Host.Outcome.next (command_idle hp)

/-- Settles O29: RX_VALID is tested before the length, and only the last case opens the window. -/
theorem strpOpensThePayloadWindow : Obligations.StrpOpensThePayloadWindow := by
  intro s hp
  rw [exec_strp_idle hp]
  refine ⟨fun hv => ?_, fun hv hlen => ?_, fun hv hlen => ?_⟩
  · rw [strpBody_refused (by exact hv), raise_of_idle (by exact hp)]
    rfl
  · rw [strpBody_short (by exact hv) (by exact hlen), raise_of_idle (by exact hp)]
    rfl
  · rw [strpBody_open (by exact hv) (by exact hlen), endOk_of_idle (by exact hp)]
    rfl

/-! ### DECD -/

theorem endDecode_reserved_tag (hx : s.opCtrl.xform = false) (hd : s.dataType = none) :
    s.endDecode = s.raise .preconditionError := by
  simp [State.endDecode, State.decodePayload, hx, hd]

theorem decdBody_refused (h : s.payValid = false) : decdBody s = s.raise .preconditionError := by simp [decdBody, h]

theorem decdBody_open (h : s.payValid = true) : decdBody s = s.endDecode := if_pos h

theorem exec_decd_idle (hp : s.phase = .idle) : exec .decd s = .next (decdBody (s.accept 0x6#4)) :=
  congrArg Host.Outcome.next (command_idle hp)

/-- Settles O30: PAY_VALID, the bypass, the tag and the length are tested in this order, and only a decode that succeeds
writes OUTBUF. -/
theorem decdDecodesThePayload : Obligations.DecdDecodesThePayload := by
  intro s hp
  rw [exec_decd_idle hp]
  refine ⟨fun hpay => ?_, fun hpay hx => ?_, fun hpay hx htag => ?_, fun d tag width hmem hpay hx htag => ?_⟩
  · rw [decdBody_refused (by exact hpay), raise_of_idle (by exact hp)]
    rfl
  · rw [decdBody_open (by exact hpay), State.endDecode_bypass (by exact hx), endOk_of_idle (by exact hp)]
    rfl
  · have hd : (s.accept 0x6#4).dataType = none := DataType.ofTag_reserved htag
    rw [decdBody_open (by exact hpay), endDecode_reserved_tag (by exact hx) hd, raise_of_idle (by exact hp)]
    rfl
  · obtain ⟨rfl, rfl⟩ := tag_and_width_of_mem hmem
    have hd : (s.accept 0x6#4).dataType = some d := (congrArg DataType.ofTag htag).trans d.ofTag_tag
    rw [decdBody_open (by exact hpay)]
    refine ⟨fun hwidth => ?_, fun hwidth => ?_⟩
    · rw [State.endDecode_length_mismatch (by exact hx) hd (by exact hwidth), raise_of_idle (by exact hp)]
      rfl
    · rw [State.endDecode_elements (by exact hx) hd (by exact hwidth), endOk_of_idle (by exact hp)]
      rfl

end Sys2Proof.Machine
end

section
/-! PROOFS. The Retry Controller step by step: WRSR's acceptance, the success of an attempt and its failure, with their frames, and
the attempt marker (R152 to R156, R158, R160, R161). -/

namespace Sys2Proof.Machine

namespace State

variable {s : State}

theorem retryHead_of_budget (h : 0 < s.remaining.toInt) : s.retryHead = s.startAttempt := if_neg (not_le.mpr h)

theorem retryHead_of_no_budget (h : s.remaining.toInt ≤ 0) : s.retryHead = s.exhaust := if_pos h

/-- Every attempt after the first submits the frame that the first one built (R154). -/
theorem firstBuild_of_started (h : 1 ≤ s.attempts.toNat) : s.firstBuild = s :=
  if_neg fun h0 => by simp [h0] at h

/-- R156 while the decremented budget is positive: the record, then the next submit. -/
theorem attemptFailed_retries (hp : s.phase = .await) (hatt : 1 ≤ s.attempts.toNat) (cause : ErrCode) (tp : Byte)
    (hbudget : 0 < (s.remaining - 1).toInt) :
    s.attemptFailed cause tp = { s with
      errCause := cause, errTp := tp, remaining := s.remaining - 1, attempts := s.attempts + 1
      trace := s.trace ++ [.log (s.logRecord cause tp), .tpSubmit s.mem.txbuf] } := by
  rw [attemptFailed, retryHead_of_budget (by exact hbudget), startAttempt_eq, firstBuild_of_started (by exact hatt)]
  simp [emit, hp]

/-- R156 once the decremented budget is used up: the record, then the end (R160). -/
theorem attemptFailed_exhausts (hatt : 1 ≤ s.attempts.toNat) (cause : ErrCode) (tp : Byte)
    (hbudget : (s.remaining - 1).toInt ≤ 0) :
    s.attemptFailed cause tp = { s with
      errCause := cause, errTp := tp, remaining := s.remaining - 1, rcState := .exhausted, txst := .spent
      errCode := .retryLimitExceeded, st := .err, phase := .idle
      trace := s.trace ++ [.log (s.logRecord cause tp), .doneErr] } := by
  have hspent : 0 < s.attempts.toNat := hatt
  rw [attemptFailed, retryHead_of_no_budget (by exact hbudget), exhaust_eq]
  simp [emit, hspent]

end State

open State

variable {s : State}

/-! ### The acceptance -/

theorem exec_wrsr_idle (hp : s.phase = .idle) : exec .wrsr s = .next (s.accept 0x9#4).loadRetry.retryHead :=
  congrArg Host.Outcome.next (command_idle hp)

/-- Settles O42: the loaded budget passes the guard, and the first attempt builds the frame from the context just latched. -/
theorem wrsrStartsItsFirstAttempt : Obligations.WrsrStartsItsFirstAttempt := by
  rintro s n hp rfl hpos
  rw [exec_wrsr_idle hp, retryHead_of_budget (by exact hpos), startAttempt_eq]
  rfl

/-- Settles O43: the loaded budget does not pass the guard, and no attempt was started. -/
theorem wrsrWithNoBudgetEndsAtOnce : Obligations.WrsrWithNoBudgetEndsAtOnce := by
  rintro s n hp rfl hnone
  have hphase : (s.accept 0x9#4).loadRetry.phase = .idle := hp
  rw [exec_wrsr_idle hp, retryHead_of_no_budget (by exact hnone), exhaust_eq, ← hphase]
  rfl

/-! ### The answer -/

theorem tpResult_wrsr_transport_failure (hp : s.phase = .await) (hc : s.curCmd = 0x9#4) (e : Byte) :
    tpResult (.fail e) s = .next (s.attemptFailed .transportError e) := tpResult_wrsr rfl hp hc

theorem tpResult_wrsr_mismatch (hp : s.phase = .await) (hc : s.curCmd = 0x9#4) {bytes : List Byte}
    (hlen : bytes.length ≤ 263) (hv : validate bytes = .crcMismatch) :
    tpResult (.ok bytes) s = .next ((s.receive bytes).attemptFailed .crcMismatch 0) := by
  rw [tpResult_wrsr (r := .ok bytes) (decide_eq_true hlen) hp hc]
  simp only [answerWrsr, hv]

theorem tpResult_wrsr_success (hp : s.phase = .await) (hc : s.curCmd = 0x9#4) {bytes : List Byte}
    (hlen : bytes.length ≤ 263) (hv : validate bytes = .ok) :
    tpResult (.ok bytes) s = .next (s.receive bytes).attemptSucceeded := by
  rw [tpResult_wrsr (r := .ok bytes) (decide_eq_true hlen) hp hc]
  simp only [answerWrsr, hv]

/-- Settles O44: the response is received, and the success ends the command. -/
theorem wrsrSucceedsOnAValidAnswer : Obligations.WrsrSucceedsOnAValidAnswer := by
  intro s bytes hp hc hlen hv
  rw [tpResult_wrsr_success hp hc hlen hv, ← s.receive_trace bytes]
  rfl

/-- The answer `r` fails the attempt in flight, with the cause and code of its record; `u` is the state that R156 goes on from. -/
inductive FailsAttempt (s : State) : (r : TpResult) → (cause : ErrCode) → (tp : Byte) → (u : State) → Prop
  | transport (e : Byte) : FailsAttempt s (.fail e) .transportError e s
  | mismatch {bytes : List Byte} (hlen : bytes.length ≤ 263) (hv : validate bytes = .crcMismatch) :
      FailsAttempt s (.ok bytes) .crcMismatch 0 (s.receive bytes)

namespace FailsAttempt

variable {u : State} {r : TpResult} {cause : ErrCode} {tp : Byte}

theorem tpResult_eq (h : FailsAttempt s r cause tp u) (hp : s.phase = .await) (hc : s.curCmd = 0x9#4) :
    tpResult r s = .next (u.attemptFailed cause tp) := by
  cases h with
  | transport => exact tpResult_wrsr_transport_failure hp hc _
  | mismatch hlen hv => exact tpResult_wrsr_mismatch hp hc hlen hv

/-- A receive leaves every register that R156 reads, with TXBUF and the trace. -/
theorem keeps (h : FailsAttempt s r cause tp u) :
    u.phase = s.phase ∧ u.curCmd = s.curCmd ∧ u.remaining = s.remaining ∧ u.attempts = s.attempts ∧
      u.logRecord cause tp = s.logRecord cause tp ∧ u.mem.txbuf = s.mem.txbuf ∧ u.trace = s.trace := by
  cases h with
  | transport => exact ⟨rfl, rfl, rfl, rfl, rfl, rfl, rfl⟩
  | mismatch =>
    rw [receive_eq]
    exact ⟨rfl, rfl, rfl, rfl, rfl, rfl, rfl⟩

/-- R156 on either kind of failure, while the decremented budget is positive. -/
theorem retries (h : FailsAttempt s r cause tp u) (hp : s.phase = .await) (hc : s.curCmd = 0x9#4)
    (hatt : 1 ≤ s.attempts.toNat) (hbudget : 0 < (s.remaining - 1).toInt) :
    tpResult r s = .next { u with
      errCause := cause, errTp := tp, remaining := s.remaining - 1, attempts := s.attempts + 1
      trace := s.trace ++ [.log (s.logRecord cause tp), .tpSubmit s.mem.txbuf] } := by
  obtain ⟨hphase, -, hrem, hatt', hlog, htx, htrace⟩ := h.keeps
  rw [h.tpResult_eq hp hc, attemptFailed_retries (hphase.trans hp) (by rwa [hatt']) _ _ (by rwa [hrem]), hrem, hatt',
    hlog, htx, htrace]

/-- R156 on either kind of failure, once the decremented budget is used up. -/
theorem exhausts (h : FailsAttempt s r cause tp u) (hp : s.phase = .await) (hc : s.curCmd = 0x9#4)
    (hatt : 1 ≤ s.attempts.toNat) (hbudget : (s.remaining - 1).toInt ≤ 0) :
    tpResult r s = .next { u with
      errCause := cause, errTp := tp, remaining := s.remaining - 1, rcState := .exhausted, txst := .spent
      errCode := .retryLimitExceeded, st := .err, phase := .idle
      trace := s.trace ++ [.log (s.logRecord cause tp), .doneErr] } := by
  obtain ⟨-, -, hrem, hatt', hlog, -, htrace⟩ := h.keeps
  rw [h.tpResult_eq hp hc, attemptFailed_exhausts (by rwa [hatt']) _ _ (by rwa [hrem]), hrem, hlog, htrace]

end FailsAttempt

/-- Settles O45: both kinds of failure end in R156, on the state as it was or with the response received. -/
theorem wrsrRetriesOrExhausts : Obligations.WrsrRetriesOrExhausts := by
  intro s u r cause tp hp hc hatt hr
  have h : FailsAttempt s r cause tp u := by
    obtain ⟨rfl, rfl, rfl⟩ | ⟨bytes, rfl, hlen, hv, rfl, rfl, rfl⟩ := hr
    · exact .transport tp
    · exact .mismatch hlen hv
  exact ⟨h.retries hp hc hatt, h.exhausts hp hc hatt⟩

/-! ### The attempt marker -/

/-- Settles O48: K is ATTEMPTS, which R32 (g) ties to the budget while WRSR is attempting. -/
theorem attemptMarkerArithmetic : Obligations.AttemptMarkerArithmetic := by
  intro s cause tp h hlink hp hc
  obtain ⟨hrc, -, hstarted⟩ := hlink ⟨hp, hc⟩
  obtain ⟨-, -, hattempting, -⟩ := inv_iff.mp h
  obtain ⟨-, -, hbudget, hcount⟩ := hattempting hrc
  have hk : (s.logRecord cause tp).k = s.attempts := rfl
  rw [hk]
  exact ⟨by omega, rfl, hstarted, by omega⟩

end Sys2Proof.Machine
end

section
/-! PROOFS. Runs of WRSR against a list of answers (R157): what each step adds to the trace, and what is in flight between two
answers. -/

namespace Sys2Proof.Machine

open State

/-! ### Runs and their events -/

theorem run_one {M : Host.Core} {s t : M.State} (h : M.step s = .next t) : M.run 1 s = .next t := by
  simp only [Host.Core.run, h]

theorem run_add {M : Host.Core} {j : Nat} {s t : M.State} (h : M.run j s = .next t) (k : Nat) :
    M.run (j + k) s = M.run k t := by
  induction j generalizing s with
  | zero =>
    obtain rfl : s = t := Host.Outcome.next.inj h
    rw [Nat.zero_add]
  | succ j ih =>
    rw [Nat.add_right_comm]
    simp only [Host.Core.run] at h ⊢
    split at h
    next => exact ih h
    all_goals cases h

/-- `k` steps lead from `s` to `t` and emit this many submits, log records and `done`s. -/
def RunsTo (k : Nat) (s t : State) (submits logs dones : Nat) : Prop :=
  core.run k s = .next t ∧ ∃ events, t.trace = s.trace ++ events ∧
    submitCount events = submits ∧ logCount events = logs ∧ doneCount events = dones

theorem RunsTo.refl (s : State) : RunsTo 0 s s 0 0 0 := ⟨rfl, [], by simp, rfl, rfl, rfl⟩

theorem RunsTo.trans {j k a b c a' b' c' : Nat} {s t u : State} (h : RunsTo j s t a b c) (h' : RunsTo k t u a' b' c') :
    RunsTo (j + k) s u (a + a') (b + b') (c + c') := by
  obtain ⟨hrun, events, htrace, rfl, rfl, rfl⟩ := h
  obtain ⟨hrun', events', htrace', rfl, rfl, rfl⟩ := h'
  refine ⟨(run_add hrun k).trans hrun', events ++ events', by rw [htrace', htrace, List.append_assoc], ?_, ?_, ?_⟩
  · exact List.countP_append
  · exact List.countP_append
  · exact List.countP_append

/-- One step that emits `events`. -/
theorem RunsTo.of_step {s t : State} (events : List Event) (h : step s = .next t) (htrace : t.trace = s.trace ++ events) :
    RunsTo 1 s t (submitCount events) (logCount events) (doneCount events) :=
  ⟨run_one h, events, htrace, rfl, rfl, rfl⟩

theorem step_of_tpResult {s : State} {r : TpResult} {rest : List Input} (h : s.inbox = .tpResult r :: rest) :
    step s = tpResult r { s with inbox := rest } := step_of_inbox_cons h

theorem step_of_wrsr {s : State} {rest : List Input} (h : s.inbox = .word .cmd4 [0x09#8] :: rest) :
    step s = exec .wrsr { s with inbox := rest } := stepRunsDecodedInstruction s _ _ rest .wrsr h rfl

/-! ### WRSR in flight -/

/-- WRSR awaits the answer to attempt number `attempts`, with `budget` left; the two sum to at most one more than the highest
count of 16 signed bits (R22, R23). -/
structure State.InFlight (s : State) (attempts budget : Nat) : Prop where
  phase : s.phase = .await
  curCmd : s.curCmd = 0x9#4
  attempts_eq : s.attempts.toNat = attempts
  remaining_eq : s.remaining.toInt = budget
  started : 1 ≤ attempts
  bound : attempts + budget ≤ 32768

/-- How a WRSR ends after `attempts` failures with no budget left (R160). -/
def State.ExhaustedAfter (attempts : Nat) (t : State) : Prop :=
  t.phase = .idle ∧ t.rcState = .exhausted ∧ t.st = .err ∧ t.errCode = .retryLimitExceeded ∧ t.attempts.toNat = attempts

/-- How a WRSR ends whose attempt number `attempts` is answered by the valid frame `bytes` (R155). -/
def State.SucceededAt (attempts : Nat) (bytes : List Byte) (t : State) : Prop :=
  t.phase = .idle ∧ t.rcState = .succeeded ∧ t.st = .ok ∧ t.mem.rxbuf = bytes ∧ t.attempts.toNat = attempts

/-- An answer that is a failure for R156: a failure code, or a frame that does not validate. -/
def TpResult.IsFailure (r : TpResult) : Prop := r.fits = true ∧ ∀ f, r = .ok f → validate f = .crcMismatch

theorem TpResult.IsFailure.failsAttempt {r : TpResult} (h : r.IsFailure) (s : State) :
    ∃ cause tp u, FailsAttempt s r cause tp u := by
  obtain ⟨hfits, hinvalid⟩ := h
  cases r with
  | fail e => exact ⟨_, _, _, .transport e⟩
  | ok bytes => exact ⟨_, _, _, .mismatch (of_decide_eq_true hfits) (hinvalid bytes rfl)⟩

/-- An answer consumes no further input. -/
theorem tpResult_inbox {r : TpResult} {s t : State} (h : tpResult r s = .next t) : t.inbox = s.inbox := by
  obtain ⟨-, -, -, -, -, -, -, -, -, -, hinbox, -⟩ := operands_eq_iff.mp (tpResult_operands h)
  exact hinbox

variable {s : State} {rest : List Input} {r : TpResult} {attempts budget : Nat}

/-- A positive count puts the first attempt in flight with the whole budget (R152, R154). -/
theorem step_wrsr_starts (hp : s.phase = .idle) (hin : s.inbox = .word .cmd4 [0x09#8] :: rest) {n : Nat}
    (hn : s.retryCount.toInt = n) (hpos : 0 < n) :
    ∃ t, RunsTo 1 s t 1 0 0 ∧ t.InFlight 1 n ∧ t.inbox = rest := by
  have hmax := s.retryCount.toInt_lt
  have hexec := wrsrStartsItsFirstAttempt { s with inbox := rest } _ hp rfl
    (show 0 < s.retryCount.toInt by omega)
  exact ⟨_, .of_step [.tpSubmit _] ((step_of_wrsr hin).trans hexec) rfl, ⟨rfl, rfl, rfl, hn, le_rfl, by omega⟩, rfl⟩

/-- A count of zero or less ends WRSR at once (R161). -/
theorem step_wrsr_no_budget (hp : s.phase = .idle) (hin : s.inbox = .word .cmd4 [0x09#8] :: rest)
    (hn : s.retryCount.toInt ≤ 0) : ∃ t, RunsTo 1 s t 0 0 1 ∧ t.ExhaustedAfter 0 := by
  have hexec := wrsrWithNoBudgetEndsAtOnce { s with inbox := rest } _ hp rfl hn
  exact ⟨_, .of_step [.doneErr] ((step_of_wrsr hin).trans hexec) rfl, hp, rfl, rfl, rfl, rfl⟩

namespace State.InFlight

/-- A failure with budget left over starts the next attempt (R156). -/
theorem step_retries (h : s.InFlight attempts (budget + 1)) (hpos : 0 < budget) (hr : r.IsFailure)
    (hin : s.inbox = .tpResult r :: rest) :
    ∃ t, RunsTo 1 s t 1 1 0 ∧ t.InFlight (attempts + 1) budget ∧ t.inbox = rest := by
  obtain ⟨hp, hc, hatt, hrem, hstarted, hbound⟩ := h
  have hsub : (s.remaining - 1).toInt = budget := by rw [toInt_sub_one (by omega)]; omega
  have hadd : (s.attempts + 1).toNat = attempts + 1 := by rw [toNat_add_one (by omega), hatt]
  obtain ⟨cause, tp, u, hu⟩ := hr.failsAttempt { s with inbox := rest }
  have hanswer := hu.retries hp hc (hatt.symm ▸ hstarted) (by simp only [hsub]; omega)
  obtain ⟨hp', hc', -⟩ := hu.keeps
  exact ⟨_, .of_step [.log _, .tpSubmit _] ((step_of_tpResult hin).trans hanswer) rfl,
    ⟨hp'.trans hp, hc'.trans hc, hadd, hsub, by omega, by omega⟩, tpResult_inbox hanswer⟩

/-- A failure with no budget left over ends the command (R156, R160). -/
theorem step_exhausts (h : s.InFlight attempts 1) (hr : r.IsFailure) (hin : s.inbox = .tpResult r :: rest) :
    ∃ t, RunsTo 1 s t 0 1 1 ∧ t.ExhaustedAfter attempts := by
  obtain ⟨hp, hc, hatt, hrem, hstarted, -⟩ := h
  have hsub : (s.remaining - 1).toInt ≤ 0 := by rw [toInt_sub_one (by omega)]; omega
  obtain ⟨cause, tp, u, hu⟩ := hr.failsAttempt { s with inbox := rest }
  have hanswer := hu.exhausts hp hc (hatt.symm ▸ hstarted) hsub
  obtain ⟨-, -, -, hatt', -⟩ := hu.keeps
  exact ⟨_, .of_step [.log _, .doneErr] ((step_of_tpResult hin).trans hanswer) rfl,
    rfl, rfl, rfl, rfl, (congrArg BitVec.toNat hatt').trans hatt⟩

/-- A valid frame ends the command at the attempt that it answers (R155). -/
theorem step_succeeds (h : s.InFlight attempts budget) {bytes : List Byte} (hlen : bytes.length ≤ 263)
    (hv : validate bytes = .ok) (hin : s.inbox = .tpResult (.ok bytes) :: rest) :
    ∃ t, RunsTo 1 s t 0 0 1 ∧ t.SucceededAt attempts bytes := by
  have hanswer := wrsrSucceedsOnAValidAnswer { s with inbox := rest } bytes h.phase h.curCmd hlen hv
  rw [receive_eq] at hanswer
  exact ⟨_, .of_step [.doneOk] ((step_of_tpResult hin).trans hanswer) rfl, rfl, rfl, rfl, rfl, h.attempts_eq⟩

/-- Each of a list of failures that leave some budget costs one attempt (R156, R157). -/
theorem run_failures {failures : List TpResult} (hr : ∀ r ∈ failures, r.IsFailure) (hpos : 0 < budget)
    (h : s.InFlight attempts (budget + failures.length)) (hin : s.inbox = failures.map .tpResult ++ rest) :
    ∃ t, RunsTo failures.length s t failures.length failures.length 0 ∧
      t.InFlight (attempts + failures.length) budget ∧ t.inbox = rest := by
  induction failures generalizing s attempts with
  | nil => exact ⟨s, .refl s, h, hin⟩
  | cons r failures ih =>
    rw [List.forall_mem_cons] at hr
    obtain ⟨t, hrun, hflight, hinbox⟩ := h.step_retries (budget := budget + failures.length) (by omega) hr.1 hin
    obtain ⟨u, hruns, hflight', hinbox'⟩ := ih hr.2 hflight hinbox
    rw [Nat.add_right_comm] at hflight'
    refine ⟨u, ?_, hflight', hinbox'⟩
    simpa only [List.length_cons, Nat.add_comm 1] using hrun.trans hruns

end State.InFlight

/-! ### Whole runs -/

/-- WRSR and then failures that leave some budget: one submit more than failures, the last one still in flight. -/
theorem run_wrsr_failures {failures : List TpResult} (hp : s.phase = .idle)
    (hin : s.inbox = .word .cmd4 [0x09#8] :: (failures.map .tpResult ++ rest)) (hr : ∀ r ∈ failures, r.IsFailure)
    (hpos : 0 < budget) (hcount : s.retryCount.toInt = (budget + failures.length : Nat)) :
    ∃ t, RunsTo (failures.length + 1) s t (failures.length + 1) failures.length 0 ∧
      t.InFlight (failures.length + 1) budget ∧ t.inbox = rest := by
  obtain ⟨t, hstart, hflight, hinbox⟩ := step_wrsr_starts hp hin hcount (by omega)
  obtain ⟨u, hruns, hflight', hinbox'⟩ := hflight.run_failures hr hpos hinbox
  have hrun := hstart.trans hruns
  rw [Nat.zero_add, Nat.add_comm 1] at hrun
  rw [Nat.add_comm 1] at hflight'
  exact ⟨u, hrun, hflight', hinbox'⟩

/-- Settles O46: with no budget WRSR ends at once; otherwise all failures but the last leave some budget, and the last none. -/
theorem alwaysFailingTransportGetsExactlyNAttempts : Obligations.AlwaysFailingTransportGetsExactlyNAttempts := by
  intro s failures hp hlen hr hin
  obtain rfl | ⟨failures, last, rfl⟩ := failures.eq_nil_or_concat'
  · have hcount : s.retryCount.toInt ≤ 0 := by
      rw [List.length_nil] at hlen
      omega
    obtain ⟨t, ⟨hrun, events, htrace, hsubmits, hlogs, hdones⟩, hend⟩ := step_wrsr_no_budget hp hin hcount
    exact ⟨t, events, hrun, htrace, hsubmits, hlogs, hdones, hend⟩
  · rw [List.length_append, List.length_singleton] at hlen ⊢
    rw [List.map_append] at hin
    obtain ⟨hr, hlast⟩ := List.forall_mem_append.mp hr
    obtain ⟨t, hruns, hflight, hinbox⟩ := run_wrsr_failures (budget := 1) hp hin hr one_pos (by omega)
    obtain ⟨u, hstep, hend⟩ := hflight.step_exhausts (hlast last (List.mem_singleton_self last)) hinbox
    obtain ⟨hrun, events, htrace, hsubmits, hlogs, hdones⟩ := hruns.trans hstep
    exact ⟨u, events, hrun, htrace, hsubmits, hlogs, hdones, hend⟩

/-- Settles O47: the failures leave some budget, so the valid frame answers the attempt after them. -/
theorem firstSuccessEndsTheRetries : Obligations.FirstSuccessEndsTheRetries := by
  intro s failures bytes hp hlen hr hbytes hv hin
  have hcount : s.retryCount.toInt = ((s.retryCount.toInt.toNat - failures.length) + failures.length : Nat) := by omega
  obtain ⟨t, hruns, hflight, hinbox⟩ := run_wrsr_failures hp hin hr (by omega) hcount
  obtain ⟨u, hstep, hend⟩ := hflight.step_succeeds hbytes hv hinbox
  obtain ⟨hrun, events, htrace, hsubmits, hlogs, hdones⟩ := hruns.trans hstep
  exact ⟨u, events, hrun, htrace, hsubmits, hlogs, hdones, hend⟩

end Sys2Proof.Machine
end

section
/-! PROOFS. What an answer of the transport leaves unchanged: the request, and the results and counters of the other commands (R155,
R156, R176, R177, R180, R187, R189). -/

namespace Sys2Proof.Machine

namespace State

/-- The request in flight: the frame, the command that sent it, and WRSR's count and context. -/
def request (s : State) : List Byte × BitVec 4 × Half × Byte × Half × Half :=
  (s.mem.txbuf, s.curCmd, s.rcN, s.ctxSlave, s.ctxReg, s.ctxValue)

/-- What a decode writes: OUTBUF and OUT_KIND, with the payload's length. -/
def output (s : State) : List Word × BitVec 4 × Half := (s.mem.outbuf, s.outKind, s.payLen)

/-- What the retry loop counts. -/
def retries (s : State) : RcState × Half × Half := (s.rcState, s.remaining, s.attempts)

theorem request_eq_iff {s t : State} : t.request = s.request ↔
    t.mem.txbuf = s.mem.txbuf ∧ t.curCmd = s.curCmd ∧ t.rcN = s.rcN ∧ t.ctxSlave = s.ctxSlave ∧ t.ctxReg = s.ctxReg ∧
      t.ctxValue = s.ctxValue := by
  simp only [request, Prod.mk.injEq]

theorem output_eq_iff {s t : State} : t.output = s.output ↔
    t.mem.outbuf = s.mem.outbuf ∧ t.outKind = s.outKind ∧ t.payLen = s.payLen := by
  simp only [output, Prod.mk.injEq]

theorem retries_eq_iff {s t : State} : t.retries = s.retries ↔
    t.rcState = s.rcState ∧ t.remaining = s.remaining ∧ t.attempts = s.attempts := by
  simp only [retries, Prod.mk.injEq]

section

variable (s : State) (e : ErrCode) (bytes : List Byte)

@[simp] theorem endOk_request : s.endOk.request = s.request := rfl
@[simp] theorem endOk_output : s.endOk.output = s.output := rfl
@[simp] theorem endOk_retries : s.endOk.retries = s.retries := rfl
@[simp] theorem raise_request : (s.raise e).request = s.request := rfl
@[simp] theorem raise_output : (s.raise e).output = s.output := rfl
@[simp] theorem raise_retries : (s.raise e).retries = s.retries := rfl

@[simp] theorem receive_request : (s.receive bytes).request = s.request := by
  rw [receive_eq]
  rfl

@[simp] theorem receive_output : (s.receive bytes).output = s.output := by
  rw [receive_eq]
  rfl

@[simp] theorem receive_retries : (s.receive bytes).retries = s.retries := by
  rw [receive_eq]
  rfl

@[simp] theorem received_request : (s.received bytes).request = s.request := receive_request s bytes
@[simp] theorem received_output : (s.received bytes).output = s.output := receive_output s bytes
@[simp] theorem received_retries : (s.received bytes).retries = s.retries := receive_retries s bytes

end

theorem stripRx_keeps {s t : State} (h : s.stripRx = some t) : t.request = s.request ∧ t.retries = s.retries := by
  obtain ⟨-, rfl⟩ := stripRx_some h
  exact ⟨rfl, rfl⟩

theorem endDecode_keeps (s : State) : s.endDecode.request = s.request ∧ s.endDecode.retries = s.retries := by
  unfold endDecode
  split
  next t ht => obtain ⟨-, rfl⟩ | ⟨_, -, -, -, rfl⟩ := decodePayload_ok ht <;> exact ⟨rfl, rfl⟩
  next => exact ⟨rfl, rfl⟩

/-- Only a first attempt builds a frame (R154). -/
theorem retryHead_keeps {s : State} (h : 1 ≤ s.attempts.toNat) :
    s.retryHead.request = s.request ∧ s.retryHead.output = s.output := by
  obtain ⟨-, heq⟩ | ⟨-, heq⟩ := retryHead_cases s <;> rw [heq]
  · rw [exhaust_eq]
    exact ⟨rfl, rfl⟩
  · rw [startAttempt_eq, firstBuild_of_started h]
    exact ⟨rfl, rfl⟩

theorem attemptFailed_keeps {s : State} (h : 1 ≤ s.attempts.toNat) (cause : ErrCode) (tp : Byte) :
    (s.attemptFailed cause tp).request = s.request ∧ (s.attemptFailed cause tp).output = s.output :=
  retryHead_keeps (by exact h)

end State

open State

variable {s t : State}

/-- REQ and WRMR take the response into RXBUF and its flags, no more (R176, R177, R189). -/
theorem answerReq_keeps (r : TpResult) (s : State) :
    (answerReq r s).request = s.request ∧ (answerReq r s).output = s.output ∧ (answerReq r s).retries = s.retries := by
  cases r with
  | fail e => exact ⟨rfl, rfl, rfl⟩
  | ok bytes =>
    simp only [answerReq]
    split <;> simp

/-- RDHR decodes besides (R187). -/
theorem answerRdhr_keeps (r : TpResult) (s : State) :
    (answerRdhr r s).request = s.request ∧ (answerRdhr r s).retries = s.retries := by
  cases r with
  | fail e => exact ⟨rfl, rfl⟩
  | ok bytes =>
    simp only [answerRdhr]
    split
    next => simp
    next =>
      split
      next => simp
      next u hu =>
        obtain ⟨hrequest, hretries⟩ := stripRx_keeps hu
        obtain ⟨hrequest', hretries'⟩ := endDecode_keeps u
        exact ⟨by simp [hrequest', hrequest], by simp [hretries', hretries]⟩

/-- WRSR counts, and submits the same bytes again (R155, R156). -/
theorem answerWrsr_keeps (h : 1 ≤ s.attempts.toNat) (r : TpResult) :
    (answerWrsr r s).request = s.request ∧ (answerWrsr r s).output = s.output := by
  cases r with
  | fail e => exact attemptFailed_keeps h _ _
  | ok bytes =>
    obtain ⟨-, -, hatt⟩ := retries_eq_iff.mp (receive_retries s bytes)
    simp only [answerWrsr]
    split
    · exact ⟨receive_request s bytes, receive_output s bytes⟩
    · obtain ⟨hrequest, houtput⟩ := attemptFailed_keeps (s := s.receive bytes) (by rwa [hatt]) .crcMismatch 0
      exact ⟨hrequest.trans (receive_request s bytes), houtput.trans (receive_output s bytes)⟩

/-- The frame of an answer, command by command. -/
theorem tpResult_keeps (hl : s.Linked) {r : TpResult} (ht : tpResult r s = .next t) :
    t.request = s.request ∧ (s.curCmd ≠ 0x8#4 → t.output = s.output) ∧ (s.curCmd ≠ 0x9#4 → t.retries = s.retries) := by
  obtain ⟨-, ⟨-, rfl⟩ | ⟨hp, ⟨-, rfl⟩ | ⟨hc, rfl⟩ | ⟨hc, rfl⟩ | ⟨-, rfl⟩⟩⟩ := tpResult_next ht
  · exact ⟨rfl, fun _ => rfl, fun _ => rfl⟩
  · obtain ⟨hrequest, houtput, hretries⟩ := answerReq_keeps r s
    exact ⟨hrequest, fun _ => houtput, fun _ => hretries⟩
  · obtain ⟨hrequest, hretries⟩ := answerRdhr_keeps r s
    exact ⟨hrequest, fun hne => absurd hc hne, fun _ => hretries⟩
  · obtain ⟨-, -, hstarted⟩ := hl.1 ⟨hp, hc⟩
    obtain ⟨hrequest, houtput⟩ := answerWrsr_keeps hstarted r
    exact ⟨hrequest, fun _ => houtput, fun hne => absurd hc hne⟩
  · obtain ⟨hrequest, houtput, hretries⟩ := answerReq_keeps r s
    exact ⟨hrequest, fun _ => houtput, fun _ => hretries⟩

/-- With no submit outstanding an answer is dropped (R180). -/
theorem tpResult_idle (hp : s.phase = .idle) {r : TpResult} (ht : tpResult r s = .next t) : t = s := by
  obtain ⟨-, ⟨-, rfl⟩ | ⟨hawait, -⟩⟩ := tpResult_next ht
  · rfl
  · simp [hp] at hawait

/-- Settles O10: a frame row is an answer, which writes neither the request nor an operand. -/
theorem wireFrameRowsFrame : Obligations.WireFrameRowsFrame := by
  intro i s t _ hl hi ht
  rw [exec_of_isFrame hi] at ht
  obtain ⟨hrequest, houtput, hretries⟩ := tpResult_keeps hl ht
  obtain ⟨htx, hcmd, hn, hslave, hreg, hvalue⟩ := request_eq_iff.mp hrequest
  obtain ⟨-, -, -, -, -, -, -, -, -, hval, -, -⟩ := operands_eq_iff.mp (tpResult_operands ht)
  exact ⟨htx, hval, hcmd, hn, hslave, hreg, hvalue, fun hne => output_eq_iff.mp (houtput hne),
    fun hne => retries_eq_iff.mp (hretries hne), fun hp => tpResult_idle hp ht⟩

end Sys2Proof.Machine
end

section
/-! PROOFS. While PHASE = AWAIT the host's transactions leave the block as it is (R174, R196, R240). -/

namespace Sys2Proof

/-- The decoder reads a row of the format it was asked for. -/
theorem encode_fmt_of_decode {fmt : Format} {w : List Byte} {i : Instr} (h : decode fmt w = .ok i) :
    (encode i).1 = fmt := by
  by_cases hfmt : fmt = .opCtrl
  · subst hfmt
    obtain ⟨lo, hi, rfl, -⟩ := decodeOpCtrl_ok h
    rw [encode_dtypeRow]
    rfl
  · obtain ⟨-, hencode⟩ := encodeDecodeRoundTrip fmt w i h
    exact congrArg Prod.fst (hencode (.inl hfmt))

end Sys2Proof

namespace Sys2Proof.Machine

variable {s t : State}

/-- Of the words, those of the frame formats alone are transport answers (R170). -/
theorem isFrame_eq_movesAwait {fmt : Format} {w : List Byte} {i : Instr} (h : decode fmt w = .ok i) :
    i.isFrame = (Input.word fmt w).movesAwait := by
  rw [Instr.isFrame, encode_fmt_of_decode h]
  cases fmt <;> rfl

theorem regWrite_await (hp : s.phase = .await) (index value : Nat) :
    regWrite index value s = s.answerHost .rejected := by
  simp only [regWrite, hp]

theorem bufLoad_await (hp : s.phase = .await) (l : Load) : bufLoad l s = s.answerHost .rejected := by
  simp only [bufLoad, hp]

/-- A command is rejected, and so is each of a sequence; a DataType row is a rejected RegWrite (R192, R196). -/
theorem exec_block_of_await {i : Instr} (hp : s.phase = .await) (hi : i.isFrame = false) (ht : exec i s = .next t) :
    t.block = s.block := by
  cases rowKind i with
  | command _ _ run =>
    rw [run, command_await hp] at ht
    cases ht
    rfl
  | sequence _ _ run =>
    rw [run, command_command_await hp] at ht
    cases ht
    rfl
  | frame hframe _ => simp [hi] at hframe
  | dtype _ run =>
    rw [run, writeOpCtrl_await hp] at ht
    cases ht
    rfl

theorem deliver_block_of_await {input : Input} (hp : s.phase = .await) (hin : input.movesAwait = false)
    (ht : deliver input s = .next t) : t.block = s.block := by
  cases input with
  | word fmt w =>
    obtain ⟨i, hdecode, hexec⟩ := runWord_next ht
    exact exec_block_of_await hp ((isFrame_eq_movesAwait hdecode).trans hin) hexec
  | regWrite index value =>
    cases ht
    rw [regWrite_await hp]
    rfl
  | regRead index =>
    obtain ⟨r, hr⟩ := regRead_answers index s
    cases ht
    rw [hr]
    rfl
  | bufLoad l =>
    cases ht
    rw [bufLoad_await hp]
    rfl
  | bufRead space a n =>
    obtain ⟨r, hr⟩ := bufRead_answers space a n s
    cases ht
    rw [hr]
    rfl
  | tpResult | reset => cases hin

/-- Settles O7: a step delivers no input, or one that AWAIT rejects or that only reads. -/
theorem awaitIsLeftOnlyByAnswerOrReset : Obligations.AwaitIsLeftOnlyByAnswerOrReset := by
  intro s t hp hstep hin
  obtain ⟨-, rfl⟩ | ⟨input, rest, hinbox, hdeliver⟩ := step_next hstep
  · rfl
  · exact deliver_block_of_await (s := { s with inbox := rest }) hp (hin input rest hinbox) hdeliver

end Sys2Proof.Machine
end

section
/-! PROOFS. The Request Orchestrator: REQ's acceptance, the answers that end REQ, RDHR and WRMR, and those that reach no command
(R173, R175, R177, R180, R181, R189). -/

namespace Sys2Proof.Machine

variable {s : State}

/-! ### The acceptance of REQ -/

theorem exec_req_idle (hp : s.phase = .idle) : exec .req s = .next (reqBody (s.accept 0x7#4)) :=
  congrArg Host.Outcome.next (command_idle hp)

theorem reqBody_sealed (h : s.txst = .sealed) : reqBody s = s.submit := by
  simp only [reqBody, h]

theorem reqBody_refused (h : s.txst ≠ .sealed) : reqBody s = s.raise .preconditionError := by
  unfold reqBody
  split
  · contradiction
  all_goals rfl

/-- Settles O32: the body submits TXBUF, or raises before it emits anything. -/
theorem reqSubmitsASealedFrame : Obligations.ReqSubmitsASealedFrame := by
  refine fun s hp => ⟨fun h => ?_, fun h => ?_⟩ <;> rw [exec_req_idle hp]
  · rw [reqBody_sealed (s := s.accept 0x7#4) h]
    rfl
  · rw [reqBody_refused (s := s.accept 0x7#4) h, raise_of_idle (by exact hp)]
    rfl

/-! ### The answer -/

/-- The commands that are not retried take a transport failure alike (R175, R178). -/
theorem tpResult_transportFailed (hp : s.phase = .await)
    (hc : s.curCmd = 0x7#4 ∨ s.curCmd = 0x8#4 ∨ s.curCmd = 0xA#4) (e : Byte) :
    tpResult (.fail e) s = .next (s.transportFailed e) := by
  obtain hc | hc | hc := hc
  · exact tpResult_req rfl hp hc
  · exact tpResult_rdhr rfl hp hc
  · exact tpResult_wrmr rfl hp hc

/-- Settles O33: the failure is recorded and raised on the state as it was. -/
theorem transportFailureEndsTheCommand : Obligations.TransportFailureEndsTheCommand := fun _ e hp hc =>
  tpResult_transportFailed hp hc e

theorem answerReq_mismatch {bytes : List Byte} (h : validate bytes = .crcMismatch) (s : State) :
    answerReq (.ok bytes) s = (s.received bytes).raise .crcMismatch := by
  simp only [answerReq, h]

/-- Settles O35: the response is received, and its verdict ends the command. -/
theorem reqAndWrmrReturnTheResponse : Obligations.ReqAndWrmrReturnTheResponse := by
  intro s bytes hp hc hlen
  rw [tpResult_answerReq (r := .ok bytes) (decide_eq_true hlen) hp hc]
  refine ⟨fun hv => ?_, fun hv => ?_⟩
  · rw [answerReq_valid hv, ← s.receive_trace bytes]
    rfl
  · rw [answerReq_mismatch hv, ← s.receive_trace bytes]
    rfl

/-! ### Answers that reach no command -/

theorem tpResult_dropped {r : TpResult} (hr : r.fits = true) (hp : s.phase = .idle) : tpResult r s = .next s := by
  simp only [tpResult, hr, hp, if_true]

theorem tpResult_oversize {bytes : List Byte} (h : 263 < bytes.length) (s : State) :
    tpResult (.ok bytes) s = .refused .oversizeResponse := by
  have hfits : TpResult.fits (.ok bytes) = false := decide_eq_false (not_le.mpr h)
  simp [tpResult, hfits]

/-- Settles O36: the drop while idle, and the refusal, which looks at the length before PHASE. -/
theorem unmatchedAndOversizeAnswers : Obligations.UnmatchedAndOversizeAnswers := fun s _ =>
  ⟨tpResult_dropped, fun _ h => tpResult_oversize h s⟩

end Sys2Proof.Machine
end

section
/-! PROOFS. The host port: RegWrite, RegRead, BufLoad and BufRead, with what each leaves unchanged (R11, R192 to R195). -/

namespace Sys2Proof.Machine

variable {s : State}

/-! ### The register map -/

/-- The runs of indexes without a register, between the registers of R11 and above them. -/
def Reg.Unassigned (index : Nat) : Prop :=
  (0x05 < index ∧ index < 0x08) ∨ (0x0A < index ∧ index < 0x10) ∨ (0x14 < index ∧ index < 0x18) ∨
    index = 0x1F ∨ 0x29 < index

theorem Reg.ofIndex_of_unassigned {index : Nat} (h : Unassigned index) : ofIndex index = none := by
  unfold Unassigned at h
  unfold ofIndex
  split
  case h_32 => rfl
  all_goals omega

/-- The RW registers are the two runs 0x00 to 0x05 and 0x08 to 0x0A (R11). -/
theorem Reg.index_of_writable {index : Nat} {r : Reg} (h : ofIndex index = some r) (hr : r.writable = true) :
    index ≤ 0x05 ∨ (0x08 ≤ index ∧ index ≤ 0x0A) := by
  have htable : ∀ i < 0x2A, (ofIndex i).any writable = true → i ≤ 0x05 ∨ (0x08 ≤ i ∧ i ≤ 0x0A) := by decide
  by_cases hlt : index < 0x2A
  · exact htable index hlt (by simpa [h] using hr)
  · have hnone := ofIndex_of_unassigned (index := index) (by unfold Unassigned; omega)
    simp [h] at hnone

/-! ### RegWrite -/

theorem regWrite_idle {index : Nat} {r : Reg} (hp : s.phase = .idle) (hi : Reg.ofIndex index = some r)
    (hr : r.writable = true) (value : Nat) :
    regWrite index value s = (s.putReg r value).answerHost .accepted := by
  simp only [regWrite, hp, hi, hr, if_true]

/-- The fields of OP_CTRL as the bits of the value written: bits 15:5 are dropped (R16, R192). -/
theorem OpCtrl.ofNum_ofNat (value : Nat) :
    OpCtrl.ofNum (BitVec.ofNat 16 value) =
      { retryEn := value.testBit 0, xform := value.testBit 1, dtype := BitVec.ofNat 3 (value / 4) } := by
  have hdtype : (BitVec.ofNat 16 value).extractLsb' 2 3 = BitVec.ofNat 3 (value / 4) := by
    apply BitVec.eq_of_toNat_eq
    simp only [BitVec.extractLsb'_toNat, BitVec.toNat_ofNat, Nat.shiftRight_eq_div_pow]
    omega
  rw [OpCtrl.ofNum, hdtype, BitVec.getLsbD_ofNat, BitVec.getLsbD_ofNat]
  rfl

/-- Settles O54: an accepted write is of a writable register, which leaves out AWAIT and the indexes listed. -/
theorem regWriteRule : Obligations.RegWriteRule := by
  refine fun s index value => ⟨fun h => ?_, fun hp => ?_⟩
  · obtain heq | ⟨r, hp, hi, hr, -⟩ := regWrite_cases index value s
    · exact heq
    · have hindex := Reg.index_of_writable hi hr
      obtain hawait | hother := h
      · simp [hp] at hawait
      · omega
  · have hctrl := regWrite_idle (r := .opCtrl) (index := 0x05) hp rfl rfl value
    rw [State.putReg, OpCtrl.ofNum_ofNat] at hctrl
    exact ⟨regWrite_idle (r := .opSlave) hp rfl rfl value, regWrite_idle (r := .opFunc) hp rfl rfl value,
      regWrite_idle (r := .opF1) hp rfl rfl value, regWrite_idle (r := .opF2) hp rfl rfl value,
      regWrite_idle (r := .opRetry) hp rfl rfl value, hctrl, regWrite_idle (r := .cfgDefaultRetry) hp rfl rfl value,
      regWrite_idle (r := .cfgRespTimeout) hp rfl rfl value, regWrite_idle (r := .cfgQueueTimeout) hp rfl rfl value⟩

/-! ### RegRead -/

theorem regRead_of_ofIndex {index : Nat} {r : Reg} (h : Reg.ofIndex index = some r) :
    regRead index s = s.answerHost (s.regValue r) := by
  simp only [regRead, h]

theorem regRead_unassigned {index : Nat} (h : Reg.Unassigned index) : regRead index s = s.answerHost .rejected := by
  simp only [regRead, Reg.ofIndex_of_unassigned h]

/-- The registers of R11 in the order of their indexes, with their present values. -/
def State.registerMap (s : State) : List (Nat × Reply) :=
  (List.range 0x2A).filterMap fun index => (Reg.ofIndex index).map fun r => (index, s.regValue r)

theorem regRead_of_mem_registerMap {index : Nat} {v : Reply} (h : (index, v) ∈ s.registerMap) :
    regRead index s = s.answerHost v := by
  obtain ⟨i, -, hi⟩ := List.mem_filterMap.mp h
  obtain ⟨r, hr, hentry⟩ := Option.map_eq_some_iff.mp hi
  obtain ⟨rfl, rfl⟩ := Prod.mk.inj hentry
  exact regRead_of_ofIndex hr

/-- Settles O55: the table of the statement is the register map, entry by entry. -/
theorem regReadMap : Obligations.RegReadMap := fun _ =>
  ⟨fun _ _ => regRead_of_mem_registerMap, fun _ => regRead_unassigned⟩

/-! ### BufLoad -/

theorem bufLoad_idle (hp : s.phase = .idle) (l : Load) :
    bufLoad l s = if l.fits then (s.load l).answerHost .accepted else s.answerHost .rejected := by
  simp only [bufLoad, hp]

/-- Settles O57: while idle the limit of the buffer decides, 263 less the two bytes of a trailer for TXBUF. -/
theorem bufLoadRule : Obligations.BufLoadRule := by
  refine fun s => ⟨fun l hp => bufLoad_await hp l, fun b hp => ⟨?_, ?_⟩, fun b hp => ?_⟩ <;>
    · rw [bufLoad_idle hp]
      simp only [Load.fits, decide_eq_true_eq]
      rfl

/-! ### BufRead -/

theorem length_memRead {α : Type} {l : List α} {a n : Nat} (h : a + n ≤ l.length) : (memRead l a n).length = n := by
  simp only [memRead, List.length_take, List.length_drop]
  omega

theorem getElem?_memRead {α : Type} (l : List α) {a n i : Nat} (h : i < n) : (memRead l a n)[i]? = l[a + i]? := by
  rw [memRead, List.getElem?_take_of_lt h, List.getElem?_drop]

theorem bufRead_beyond {space : Space} {a n : Nat} (h : s.validLength space < a + n) :
    bufRead space a n s = s.answerHost .rejected := if_pos h

theorem bufRead_within {space : Space} {a n : Nat} (h : a + n ≤ s.validLength space) :
    bufRead space a n s = s.answerHost (s.units a n space) := if_neg (not_lt.mpr h)

/-- Settles O58: each buffer's units are its slice from index `a`. -/
theorem bufReadRule : Obligations.BufReadRule := fun s _ _ =>
  ⟨fun _ => bufRead_beyond,
    fun h => ⟨_, bufRead_within (space := .txbuf) h, length_memRead h, fun _ => getElem?_memRead s.mem.txbuf⟩,
    fun h => ⟨_, bufRead_within (space := .rxbuf) h, length_memRead h, fun _ => getElem?_memRead s.mem.rxbuf⟩,
    fun h => ⟨_, bufRead_within (space := .valbuf) h, length_memRead h, fun _ => getElem?_memRead s.mem.valbuf⟩,
    fun h => ⟨_, bufRead_within (space := .outbuf) h, length_memRead h, fun _ => getElem?_memRead s.mem.outbuf⟩⟩

end Sys2Proof.Machine
end

section
/-! PROOFS. The public operations: the acceptance of RDHR and WRMR, and what a successful operation leaves compared with the
command sequence it stands for (R186, R188, R191). -/

namespace Sys2Proof.Machine

open State

variable {s : State}

/-! ### The acceptance of RDHR and WRMR -/

/-- A usable tag is one of the six of R72, unless the bypass makes any tag usable (R186). -/
theorem tagUsable_iff : s.tagUsable = true ↔ s.opCtrl.xform = true ∨ s.opCtrl.dtype.toNat ≤ 5 := by
  have htag : (DataType.ofTag s.opCtrl.dtype).isSome = true ↔ s.opCtrl.dtype.toNat ≤ 5 := by
    obtain h | ⟨d, hd⟩ := dtype_cases s.opCtrl.dtype
    · simp [DataType.ofTag_reserved h, h]
    · have hle : d.tag.toNat ≤ 5 := by cases d <;> decide
      simp [hd, hle]
  rw [tagUsable, Bool.or_eq_true, dataType, htag]

theorem rdhrBody_usable (h : s.tagUsable = true) : rdhrBody s = (s.sealTx (s.fixedHeader fnReadHolding)).submit :=
  if_pos h

theorem rdhrBody_refused (h : s.tagUsable = false) : rdhrBody s = s.raise .preconditionError :=
  if_neg (by simp [h])

theorem exec_rdhr_idle (hp : s.phase = .idle) : exec .rdhr s = .next (rdhrBody (s.accept 0x8#4)) :=
  congrArg Host.Outcome.next (command_idle hp)

/-- Settles O37: the body seals the read header and submits it, or raises before it writes anything. -/
theorem rdhrSubmitsAReadRequest : Obligations.RdhrSubmitsAReadRequest := by
  refine fun s hp => ⟨fun h => ?_, fun hx htag => ?_⟩ <;> rw [exec_rdhr_idle hp]
  · rw [rdhrBody_usable (s := s.accept 0x8#4) (tagUsable_iff.mpr h)]
    rfl
  · have hrefused : (s.accept 0x8#4).tagUsable = false := by
      rw [← Bool.not_eq_true, tagUsable_iff]
      simp [hx, htag]
    rw [rdhrBody_refused hrefused, raise_of_idle (by exact hp)]
    rfl

theorem exec_wrmr_idle (hp : s.phase = .idle) : exec .wrmr s = .next (wrmrBody (s.accept 0xA#4)) :=
  congrArg Host.Outcome.next (command_idle hp)

/-- Settles O39: the body seals the write header and submits it. -/
theorem wrmrSubmitsAWriteRequest : Obligations.WrmrSubmitsAWriteRequest := by
  intro s hp
  rw [exec_wrmr_idle hp]
  rfl

/-! ### The registers that R191 compares -/

/-- The registers and buffers that R191 compares, as one value. -/
def State.result (s : State) : Memory × TxState × Bool × Half × Bool × BitVec 4 × Half × Half :=
  (s.mem, s.txst, s.rxValid, s.payLen, s.payValid, s.outKind, s.crcr, s.crcx)

theorem sameResult_iff {p q : State} : p.SameResult q ↔ p.result = q.result := by
  simp only [SameResult, result, Prod.mk.injEq]

@[simp] theorem endOk_result (s : State) : s.endOk.result = s.result := rfl
@[simp] theorem raise_result (s : State) (e : ErrCode) : (s.raise e).result = s.result := rfl

section

variable {p q : State} (h : p.result = q.result)

include h

theorem received_result (bytes : List Byte) : (p.received bytes).result = (q.received bytes).result := by
  obtain ⟨hmem, -, -, hlen, -, hkind, hcrcr, hcrcx⟩ := sameResult_iff.mpr h
  simp [received, receive_eq, result, hmem, hlen, hkind, hcrcr, hcrcx]

theorem putOut_result (kind : BitVec 4) (elems : List Word) :
    (p.putOut kind elems).result = (q.putOut kind elems).result := by
  obtain ⟨hmem, htxst, hrx, hlen, hpay, -, hcrcr, hcrcx⟩ := sameResult_iff.mpr h
  simp [result, hmem, htxst, hrx, hlen, hpay, hcrcr, hcrcx]

/-- The decode reads the payload, its length and OP_CTRL, and so ends alike where these are equal (R141). -/
theorem endDecode_result (hctrl : p.opCtrl = q.opCtrl) :
    p.endDecode.result = q.endDecode.result ∧ p.endDecode.st = q.endDecode.st := by
  obtain ⟨hmem, -, -, hlen, -, -, -, -⟩ := sameResult_iff.mpr h
  have hpayload : p.payload = q.payload := by rw [payload, payload, hmem, hlen]
  have hdata : p.dataType = q.dataType := by rw [dataType, dataType, hctrl]
  cases hx : q.opCtrl.xform with
  | true =>
    rw [endDecode_bypass (hctrl ▸ hx), endDecode_bypass hx, hpayload]
    exact ⟨putOut_result h _ _, rfl⟩
  | false =>
    have hx' : p.opCtrl.xform = false := hctrl ▸ hx
    cases hd : q.dataType with
    | none =>
      rw [endDecode_reserved_tag hx' (hdata.trans hd), endDecode_reserved_tag hx hd]
      exact ⟨h, rfl⟩
    | some d =>
      by_cases hwidth : q.payLen.toNat % d.width = 0
      · rw [endDecode_elements hx' (hdata.trans hd) (by rwa [hlen]), endDecode_elements hx hd hwidth, hpayload]
        exact ⟨putOut_result h _ _, rfl⟩
      · rw [endDecode_length_mismatch hx' (hdata.trans hd) (by rwa [hlen]), endDecode_length_mismatch hx hd hwidth]
        exact ⟨h, rfl⟩

end

/-! ### Public operations in flight, and the answer that ends them with success -/

/-- Where the acceptance in `s` leaves an operation: it has not succeeded, and if it is in flight then under the code `c`, with
the header sealed and the registers that R191 compares otherwise as before. -/
def Requested (s : State) (c : BitVec 4) (header : List Byte) (a : State) : Prop :=
  a.st ≠ .ok ∧
    (a.phase = .await → a.curCmd = c ∧ a.opCtrl = s.opCtrl ∧ a.result = (s.sealTx header).result)

theorem requested_of_submit {c : BitVec 4} {header : List Byte} :
    Requested s c header ((s.accept c).sealTx header).submit :=
  ⟨by simp, fun _ => ⟨rfl, rfl, rfl⟩⟩

/-- An operation that ended at its acceptance is idle. -/
theorem requested_of_idle {c : BitVec 4} {header : List Byte} {a : State} (hst : a.st = .err) (hphase : a.phase = .idle) :
    Requested s c header a :=
  ⟨by simp [hst], fun hawait => by simp [hphase] at hawait⟩

theorem rdhr_requested {a : State} (hp : s.phase = .idle) (ha : exec .rdhr s = .next a) :
    Requested s 0x8#4 (s.fixedHeader fnReadHolding) a := by
  obtain rfl := Host.Outcome.next.inj ((exec_rdhr_idle hp).symm.trans ha)
  cases husable : (s.accept 0x8#4).tagUsable with
  | true =>
    rw [rdhrBody_usable husable]
    exact requested_of_submit
  | false =>
    rw [rdhrBody_refused husable]
    exact requested_of_idle rfl rfl

theorem wrmr_requested {a : State} (hp : s.phase = .idle) (ha : exec .wrmr s = .next a) :
    Requested s 0xA#4 (s.varHeader fnWriteMultiple) a := by
  obtain rfl := Host.Outcome.next.inj ((exec_wrmr_idle hp).symm.trans ha)
  exact requested_of_submit

theorem wrsr_requested {a : State} (hp : s.phase = .idle) (ha : exec .wrsr s = .next a) :
    Requested s 0x9#4 (s.fixedHeader fnWriteSingle) a := by
  obtain rfl := Host.Outcome.next.inj ((exec_wrsr_idle hp).symm.trans ha)
  obtain ⟨-, heq⟩ | ⟨-, heq⟩ := retryHead_cases (s.accept 0x9#4).loadRetry <;> rw [heq]
  · rw [exhaust_eq]
    exact requested_of_idle rfl rfl
  · rw [startAttempt_eq]
    exact ⟨by simp [firstBuild], fun _ => ⟨rfl, rfl, rfl⟩⟩

/-- The guard leads to the end with an error or to the next submit, never to success (R153). -/
theorem retryHead_not_ok (h : s.st ≠ .ok) : s.retryHead.st ≠ .ok := by
  obtain ⟨-, heq⟩ | ⟨-, heq⟩ := retryHead_cases s <;> rw [heq]
  · rw [exhaust_eq]
    simp
  · rw [startAttempt_eq]
    exact (firstBuild_fields s).1.trans_ne h

/-- A response that fails its validation ends no command with success (R156, R177, R187, R189). -/
theorem valid_of_answered_ok {a b : State} {bytes : List Byte} (ha : a.st ≠ .ok) (h : tpResult (.ok bytes) a = .next b)
    (hb : b.st = .ok) : a.phase = .await ∧ bytes.length ≤ 263 ∧ validate bytes = .ok := by
  obtain ⟨hfits, ⟨-, rfl⟩ | ⟨hp, hanswer⟩⟩ := tpResult_next h
  · exact absurd hb ha
  refine ⟨hp, of_decide_eq_true hfits, ?_⟩
  cases hv : validate bytes with
  | ok => rfl
  | crcMismatch =>
    exfalso
    obtain ⟨-, rfl⟩ | ⟨-, rfl⟩ | ⟨-, rfl⟩ | ⟨-, rfl⟩ := hanswer
    · simp [answerReq_mismatch hv, State.raise] at hb
    · simp [answerRdhr_mismatch hv, State.raise] at hb
    · have hst : (a.receive bytes).st ≠ .ok := (receive_st a bytes).trans_ne ha
      simp only [answerWrsr, hv] at hb
      exact retryHead_not_ok (by exact hst) hb
    · simp [answerReq_mismatch hv, State.raise] at hb

theorem Requested.answered_ok {c : BitVec 4} {header bytes : List Byte} {a b : State} (ha : Requested s c header a)
    (h : tpResult (.ok bytes) a = .next b) (hb : b.st = .ok) :
    (a.phase = .await ∧ a.curCmd = c ∧ a.opCtrl = s.opCtrl ∧ a.result = (s.sealTx header).result) ∧
      bytes.length ≤ 263 ∧ validate bytes = .ok := by
  obtain ⟨hst, hflight⟩ := ha
  obtain ⟨hphase, hlen, hv⟩ := valid_of_answered_ok hst h hb
  exact ⟨⟨hphase, hflight hphase⟩, hlen, hv⟩

/-! ### The sequences of primitive commands -/

/-- A builder, APPT and REQ submit the sealed header, and the valid answer is returned: it is received as by the operation `a`
in flight with the same request (R191). -/
theorem primitives_answered {a : State} {build : Instr} {c : BitVec 4} {body : State → State} {header bytes : List Byte}
    (hp : s.phase = .idle) (run : exec build s = .next (s.command c body))
    (hbody : body (s.accept c) = ((s.accept c).openTx header).endOk) (ha : a.result = (s.sealTx header).result)
    (hlen : bytes.length ≤ 263) (hv : validate bytes = .ok) :
    ∃ p1 p2 p3 p4, exec build s = .next p1 ∧ exec .appt p1 = .next p2 ∧ exec .req p2 = .next p3 ∧
      tpResult (.ok bytes) p3 = .next p4 ∧ p4.st = .ok ∧ p4.phase = .idle ∧ p4.opCtrl = s.opCtrl ∧
      p4.result = (a.received bytes).result := by
  have hsealed := build_then_appt hp hbody
  generalize hp2 : (s.command c body).command 0x3#4 apptBody = p2 at hsealed
  have hreq : exec .req p2 = .next (p2.accept 0x7#4).submit := by
    rw [exec_req_idle (by rw [hsealed]; exact hp), reqBody_sealed (by rw [hsealed]; rfl)]
  refine ⟨_, p2, _, _, run, congrArg _ hp2, hreq, tpResult_req (decide_eq_true hlen) rfl rfl, ?_⟩
  rw [answerReq_valid hv]
  refine ⟨rfl, rfl, (receive_opCtrl bytes _).trans ?_, received_result (Eq.trans ?_ ha.symm) bytes⟩ <;>
    · rw [hsealed]
      rfl

/-- STRP, then DECD, on a valid response end as the last two steps of RDHR do (R187, R191). -/
theorem strp_then_decd {p a : State} {bytes : List Byte} (hp : p.phase = .idle) (hctrl : p.opCtrl = a.opCtrl)
    (h : p.result = (a.received bytes).result) (hv : validate bytes = .ok) (hlen : 5 ≤ bytes.length) :
    ∃ p5 p6, exec .strp p = .next p5 ∧ exec .decd p5 = .next p6 ∧ p6.st = (a.opened bytes).endDecode.st ∧
      p6.SameResult (a.opened bytes).endDecode := by
  obtain ⟨hmem, htxst, hrx, -, -, hkind, hcrcr, hcrcx⟩ := sameResult_iff.mpr h
  have hvalid : p.rxValid = true := by simp [hrx, received, receive_eq, hv]
  have hrxlen : p.rxlen = bytes.length := (congrArg (·.rxbuf.length) hmem).trans (received_rxlen bytes a)
  have hstrp : exec .strp p = .next
      { p.accept 0x5#4 with payLen := BitVec.ofNat 16 (bytes.length - 5), payValid := true }.endOk := by
    rw [exec_strp_idle hp, strpBody_open (by exact hvalid) (by exact hrxlen ▸ hlen), ← hrxlen]
    rfl
  refine ⟨_, _, hstrp, (exec_decd_idle rfl).trans (congrArg _ (decdBody_open rfl)), ?_⟩
  rw [sameResult_iff, and_comm]
  exact endDecode_result (sameResult_iff.mp ⟨hmem, htxst, hrx, rfl, rfl, hkind, hcrcr, hcrcx⟩)
    (hctrl.trans opened_opCtrl.symm)

/-! ### Each operation against its sequence -/

section

variable {a b : State} {bytes : List Byte} (hp : s.phase = .idle) (h : tpResult (.ok bytes) a = .next b) (hb : b.st = .ok)

include hp h hb

theorem rdhr_equals_primitives (ha : exec .rdhr s = .next a) :
    ∃ p1 p2 p3 p4 p5 p6, exec .bldf (regWrite 0x01 0x03 s) = .next p1 ∧ exec .appt p1 = .next p2 ∧
      exec .req p2 = .next p3 ∧ tpResult (.ok bytes) p3 = .next p4 ∧ exec .strp p4 = .next p5 ∧
      exec .decd p5 = .next p6 ∧ p6.st = .ok ∧ p6.SameResult b := by
  obtain ⟨⟨hphase, hcmd, hctrl, hresult⟩, hlen, hv⟩ := (rdhr_requested hp ha).answered_ok h hb
  obtain rfl := Host.Outcome.next.inj ((tpResult_rdhr (r := .ok bytes) (decide_eq_true hlen) hphase hcmd).symm.trans h)
  have hlen5 : 5 ≤ bytes.length := by
    by_contra hshort
    simp [answerRdhr_short hv (not_le.mp hshort), State.raise] at hb
  rw [answerRdhr_opened hv hlen5] at hb ⊢
  rw [regWrite_idle (r := .opFunc) hp rfl rfl]
  obtain ⟨p1, p2, p3, p4, h1, h2, h3, h4, -, hphase4, hctrl4, hresult4⟩ :=
    primitives_answered (s := (s.putReg .opFunc 0x03).answerHost .accepted) (build := .bldf) hp rfl rfl hresult hlen hv
  obtain ⟨p5, p6, h5, h6, hst, hsame⟩ := strp_then_decd hphase4 (hctrl4.trans hctrl.symm) hresult4 hv hlen5
  exact ⟨p1, p2, p3, p4, p5, p6, h1, h2, h3, h4, h5, h6, hst.trans hb, hsame⟩

theorem wrmr_equals_primitives (ha : exec .wrmr s = .next a) :
    ∃ p1 p2 p3 p4, exec .bldv (regWrite 0x01 0x10 s) = .next p1 ∧ exec .appt p1 = .next p2 ∧
      exec .req p2 = .next p3 ∧ tpResult (.ok bytes) p3 = .next p4 ∧ p4.st = .ok ∧ p4.SameResult b := by
  obtain ⟨⟨hphase, hcmd, -, hresult⟩, hlen, hv⟩ := (wrmr_requested hp ha).answered_ok h hb
  obtain rfl := Host.Outcome.next.inj ((tpResult_wrmr (r := .ok bytes) (decide_eq_true hlen) hphase hcmd).symm.trans h)
  rw [answerReq_valid hv, regWrite_idle (r := .opFunc) hp rfl rfl]
  obtain ⟨p1, p2, p3, p4, h1, h2, h3, h4, hst, -, -, hresult4⟩ :=
    primitives_answered (s := (s.putReg .opFunc 0x10).answerHost .accepted) (build := .bldv) hp rfl rfl hresult hlen hv
  exact ⟨p1, p2, p3, p4, h1, h2, h3, h4, hst, sameResult_iff.mpr hresult4⟩

/-- The answer that ends WRSR with success came to its first attempt: it is the one that `a` awaits. -/
theorem wrsr_equals_primitives (ha : exec .wrsr s = .next a) :
    ∃ p1 p2 p3 p4, exec .bldf (regWrite 0x01 0x06 s) = .next p1 ∧ exec .appt p1 = .next p2 ∧
      exec .req p2 = .next p3 ∧ tpResult (.ok bytes) p3 = .next p4 ∧ p4.st = .ok ∧ p4.SameResult b := by
  obtain ⟨⟨hphase, hcmd, -, hresult⟩, hlen, hv⟩ := (wrsr_requested hp ha).answered_ok h hb
  obtain rfl := Host.Outcome.next.inj ((tpResult_wrsr_success hphase hcmd hlen hv).symm.trans h)
  rw [regWrite_idle (r := .opFunc) hp rfl rfl]
  obtain ⟨p1, p2, p3, p4, h1, h2, h3, h4, hst, -, -, hresult4⟩ :=
    primitives_answered (s := (s.putReg .opFunc 0x06).answerHost .accepted) (build := .bldf) hp rfl rfl hresult hlen hv
  exact ⟨p1, p2, p3, p4, h1, h2, h3, h4, hst, sameResult_iff.mpr hresult4⟩

end

/-- Settles O40: the operation and its sequence seal the same header and receive the same answer. -/
theorem publicOperationsEqualTheirPrimitives : Obligations.PublicOperationsEqualTheirPrimitives :=
  fun _ _ _ _ hp h hb =>
    ⟨rdhr_equals_primitives hp h hb, wrmr_equals_primitives hp h hb, wrsr_equals_primitives hp h hb⟩

end Sys2Proof.Machine
end

section
/-! PROOFS. The errors a command can end with, at its acceptance and at the transport's answer, and what a refused command leaves
unchanged (R201, R205, R211). -/

namespace Sys2Proof.Machine

open State

variable {s t : State}

/-! ### The reserved codes -/

/-- A reserved code runs the prologue with its code and raises, nothing between (R196, R211). -/
theorem exec_reserved_idle {i : Instr} {code : BitVec 4} (hp : s.phase = .idle)
    (h : (i, code) ∈ [(Instr.reserved0, 0x0#4), (.reservedC, 0xC#4), (.reservedD, 0xD#4), (.reservedE, 0xE#4),
      (.reservedF, 0xF#4)]) : exec i s = .next ((s.accept code).raise .illegalCommand) := by
  simp only [List.mem_cons, Prod.mk.injEq, List.not_mem_nil, or_false] at h
  obtain ⟨rfl, rfl⟩ | ⟨rfl, rfl⟩ | ⟨rfl, rfl⟩ | ⟨rfl, rfl⟩ | ⟨rfl, rfl⟩ := h <;>
    exact congrArg Host.Outcome.next (command_idle hp)

/-- Settles O51: the raise of an accepted command, which stayed idle. -/
theorem reservedCodesRaiseIllegalCommand : Obligations.ReservedCodesRaiseIllegalCommand := by
  intro s i code hp h
  rw [exec_reserved_idle hp h, raise_of_idle (by exact hp)]
  rfl

/-! ### ERR_CODE after the shared operations -/

namespace State

theorem judgeRx_errCode (s : State) : s.judgeRx.errCode = s.errCode := by
  obtain ⟨-, heq⟩ | ⟨-, -, heq⟩ | ⟨-, -, heq⟩ := judgeRx_cases s <;> rw [heq]

theorem receive_errCode (s : State) (bytes : List Byte) : (s.receive bytes).errCode = s.errCode := by rw [receive_eq]

theorem received_errCode (s : State) (bytes : List Byte) : (s.received bytes).errCode = s.errCode :=
  receive_errCode s bytes

/-- A decode raises nothing, or refuses a reserved tag, or fails on the payload's length (R141, R214). -/
theorem endDecode_cases (s : State) :
    s.endDecode.errCode = s.errCode ∨
      (s.tagUsable = false ∧ s.endDecode = s.raise .preconditionError) ∨ s.endDecode = s.raise .decodeError := by
  unfold endDecode
  split
  next t ht =>
    left
    obtain ⟨-, rfl⟩ | ⟨_, -, -, -, rfl⟩ := decodePayload_ok ht <;> rfl
  next e he =>
    right
    obtain ⟨hx, ⟨hd, rfl⟩ | ⟨_, -, -, rfl⟩⟩ := decodePayload_error he
    · exact .inl ⟨by simp [tagUsable, hx, hd], rfl⟩
    · exact .inr rfl

/-- The retry loop raises nothing but its own exhaustion (R153, R160). -/
theorem retryHead_errCode (s : State) : s.retryHead.errCode = s.errCode ∨ s.retryHead.errCode = .retryLimitExceeded := by
  obtain ⟨-, heq⟩ | ⟨-, heq⟩ := retryHead_cases s <;> rw [heq]
  · rw [exhaust_eq]
    exact .inr rfl
  · obtain ⟨-, -, herr, -⟩ := s.firstBuild_fields
    rw [startAttempt_eq]
    exact .inl herr

end State

/-! ### An accepted command -/

/-- The two errors that a command raises before it writes anything (R205). -/
def refusals : List ErrCode := [.preconditionError, .illegalCommand]

/-- Where a body, started in `s`, may leave ERR_CODE when its command's errors are `errors`: clear; raised on `s` as it stands; or
raised after other writes, and then with no refusal (R201, R205). -/
inductive Ending (s : State) (errors : List ErrCode) : State → Prop
  | clear {t : State} (h : t.errCode = .none) : Ending s errors t
  | raised {e : ErrCode} (he : e ∈ errors) : Ending s errors (s.raise e)
  | failed {t : State} {e : ErrCode} (h : t.errCode = e) (he : e ∈ errors) (hlate : e ∉ refusals) : Ending s errors t

theorem Ending.errCode_mem {errors : List ErrCode} (h : Ending s errors t) (hne : t.errCode ≠ .none) :
    t.errCode ∈ errors := by
  cases h with
  | clear hclear => exact absurd hclear hne
  | raised he => exact he
  | failed h he _ => exact h ▸ he

theorem Ending.eq_raise_of_refusal {errors : List ErrCode} (h : Ending s errors t) (href : t.errCode ∈ refusals) :
    t = s.raise t.errCode := by
  cases h with
  | clear hclear => simp [hclear, refusals] at href
  | raised _ => rfl
  | failed h _ hlate => exact absurd (h ▸ href) hlate

section

variable (hs : s.errCode = .none)

include hs

theorem apptBody_ending : Ending s [.preconditionError] (apptBody s) := by
  by_cases h : s.txst = .open
  · rw [apptBody_open h]
    exact .clear hs
  · rw [apptBody_refused h]
    exact .raised (by decide)

theorem valtBody_ending : Ending s [.crcMismatch] (valtBody s) := by
  cases hv : validate s.mem.rxbuf with
  | ok =>
    rw [valtBody_ok hv]
    exact .clear ((judgeRx_errCode s).trans hs)
  | crcMismatch =>
    rw [valtBody_mismatch hv]
    exact .failed (raise_errCode _ _) (by decide) (by decide)

theorem strpBody_ending : Ending s [.decodeError, .preconditionError] (strpBody s) := by
  cases hv : s.rxValid with
  | false =>
    rw [strpBody_refused hv]
    exact .raised (by decide)
  | true =>
    by_cases hlen : s.rxlen < 5
    · rw [strpBody_short hv hlen]
      exact .failed (raise_errCode _ _) (by decide) (by decide)
    · rw [strpBody_open hv (not_lt.mp hlen)]
      exact .clear hs

theorem decdBody_ending : Ending s [.decodeError, .preconditionError] (decdBody s) := by
  cases hpay : s.payValid with
  | false =>
    rw [decdBody_refused hpay]
    exact .raised (by decide)
  | true =>
    rw [decdBody_open hpay]
    obtain herr | ⟨-, heq⟩ | heq := endDecode_cases s
    · exact .clear (herr.trans hs)
    all_goals
      rw [heq]
      exact .raised (by decide)

theorem reqBody_ending : Ending s [.preconditionError] (reqBody s) := by
  by_cases h : s.txst = .sealed
  · rw [reqBody_sealed h]
    exact .clear hs
  · rw [reqBody_refused h]
    exact .raised (by decide)

theorem rdhrBody_ending : Ending s [.preconditionError] (rdhrBody s) := by
  cases h : s.tagUsable with
  | true =>
    rw [rdhrBody_usable h]
    exact .clear hs
  | false =>
    rw [rdhrBody_refused h]
    exact .raised (by decide)

theorem wrsrBody_ending : Ending s [.retryLimitExceeded] (wrsrBody s) := by
  obtain herr | herr := retryHead_errCode s.loadRetry
  · exact .clear (herr.trans hs)
  · exact .failed herr (by decide) (by decide)

end

/-- An accepted command ends as its row of R201's table says, started from the prologue's state (R196). -/
theorem exec_ending {i : Instr} (hi : i.isCommand = true) (hp : s.phase = .idle) :
    ∃ code t, exec i s = .next t ∧ Ending (s.accept code) i.errors t := by
  cases i with
  | bldf => exact ⟨0x1#4, _, bldfBuildsTheFixedHeader s hp, .clear rfl⟩
  | bldv =>
    obtain ⟨_, hexec, -⟩ := bldvBuildsTheVariableHeader s hp
    exact ⟨0x2#4, _, hexec, .clear rfl⟩
  | appt => exact ⟨_, _, exec_appt_idle hp, apptBody_ending rfl⟩
  | valt => exact ⟨_, _, exec_valt_idle hp, valtBody_ending rfl⟩
  | strp => exact ⟨_, _, exec_strp_idle hp, strpBody_ending rfl⟩
  | decd => exact ⟨_, _, exec_decd_idle hp, decdBody_ending rfl⟩
  | req => exact ⟨_, _, exec_req_idle hp, reqBody_ending rfl⟩
  | rdhr => exact ⟨_, _, exec_rdhr_idle hp, rdhrBody_ending rfl⟩
  | wrsr => exact ⟨_, _, exec_wrsr_idle hp, wrsrBody_ending rfl⟩
  | wrmr => exact ⟨0xA#4, _, exec_wrmr_idle hp, .clear rfl⟩
  | crcg => exact ⟨0xB#4, _, exec_crcg_idle hp, .clear rfl⟩
  | reserved0 | reservedC | reservedD | reservedE | reservedF =>
    exact ⟨_, _, congrArg Host.Outcome.next (command_idle hp), .raised (by decide)⟩
  | _ => cases hi

theorem ending_of_exec {i : Instr} (hi : i.isCommand = true) (hp : s.phase = .idle) (ht : exec i s = .next t) :
    ∃ code, Ending (s.accept code) i.errors t := by
  obtain ⟨code, u, hu, hending⟩ := exec_ending hi hp
  obtain rfl := Host.Outcome.next.inj (hu.symm.trans ht)
  exact ⟨code, hending⟩

/-- Settles O50: a refusal is raised on the prologue's state as it stands, and PHASE was IDLE already. -/
theorem refusedCommandsChangeNothingElse : Obligations.RefusedCommandsChangeNothingElse := by
  intro i s t hi hp ht herr
  obtain ⟨code, hending⟩ := ending_of_exec hi hp ht
  have hraise : t = (s.accept code).raise t.errCode := hending.eq_raise_of_refusal (by simpa [refusals] using herr)
  have hcode : t.curCmd = code := congrArg State.curCmd hraise
  rw [hcode]
  exact hraise.trans (raise_of_idle (by exact hp) _)

/-! ### The transport's answer -/

/-- REQ and WRMR end with the failure of the transport or of the validation (R175, R177, R189). -/
theorem answerReq_errCode (hs : s.errCode = .none) (r : TpResult) :
    (answerReq r s).errCode ∈ [.none, .crcMismatch, .transportError] := by
  cases r with
  | fail e => simp [answerReq, transportFailed]
  | ok bytes =>
    cases hv : validate bytes with
    | ok => simp [answerReq_valid hv, received_errCode, hs]
    | crcMismatch => simp [answerReq_mismatch hv]

/-- RDHR may fail in its strip and decode besides, but not on its tag, which it checked at its acceptance (R186, R187). -/
theorem answerRdhr_errCode (hs : s.errCode = .none) (htag : s.tagUsable = true) (r : TpResult) :
    (answerRdhr r s).errCode ∈ [.none, .crcMismatch, .transportError, .decodeError] := by
  cases r with
  | fail e => simp [answerRdhr, transportFailed]
  | ok bytes =>
    cases hv : validate bytes with
    | crcMismatch => simp [answerRdhr_mismatch hv]
    | ok =>
      by_cases hlen : bytes.length < 5
      · simp [answerRdhr_short hv hlen]
      rw [answerRdhr_opened hv (not_lt.mp hlen)]
      have hopened : (s.opened bytes).errCode = .none := (received_errCode s bytes).trans hs
      have htag' : (s.opened bytes).tagUsable = true := by
        rw [tagUsable_iff, opened_opCtrl]
        exact tagUsable_iff.mp htag
      obtain herr | ⟨hbad, -⟩ | heq := endDecode_cases (s.opened bytes)
      · simp [herr, hopened]
      · simp [htag'] at hbad
      · simp [heq]

/-- A failed attempt of WRSR is recorded as a cause, and only the exhaustion is its error (R155, R156, R160). -/
theorem answerWrsr_errCode (hs : s.errCode = .none) (r : TpResult) :
    (answerWrsr r s).errCode = .none ∨ (answerWrsr r s).errCode = .retryLimitExceeded := by
  cases r with
  | fail e => exact (retryHead_errCode _).imp_left fun herr => herr.trans hs
  | ok bytes =>
    have hreceive : (s.receive bytes).errCode = .none := (receive_errCode s bytes).trans hs
    simp only [answerWrsr]
    split
    · exact .inl hreceive
    · exact (retryHead_errCode _).imp_left fun herr => herr.trans hreceive

/-- No error is recorded in AWAIT, so what stands after the answer is what the answer raised (R32 f, h). -/
theorem tpResult_errCode (h : s.Inv) (hl : s.Linked) (hp : s.phase = .await) {r : TpResult} (ht : tpResult r s = .next t)
    (hne : t.errCode ≠ .none) : t.errCode ∈ answerErrors s.curCmd := by
  have hs := h.errCode_of_await hp
  obtain ⟨-, ⟨-, rfl⟩ | ⟨-, ⟨hc, rfl⟩ | ⟨hc, rfl⟩ | ⟨hc, rfl⟩ | ⟨hc, rfl⟩⟩⟩ := tpResult_next ht
  · exact absurd hs hne
  · simpa [hc, answerErrors, hne] using answerReq_errCode hs r
  · simpa [hc, answerErrors, hne] using answerRdhr_errCode hs (hl.2 ⟨hp, hc⟩) r
  · simpa [hc, answerErrors, hne] using answerWrsr_errCode hs r
  · simpa [hc, answerErrors, hne] using answerReq_errCode hs r

/-- Settles O49: command by command at its acceptance, then at the answer to the command in flight. -/
theorem commandsRaiseOnlyTheirErrors : Obligations.CommandsRaiseOnlyTheirErrors := by
  refine ⟨fun i s t hi hp ht hne => ?_, fun s t r h hl hp ht hne => tpResult_errCode h hl hp ht hne⟩
  obtain ⟨_, hending⟩ := ending_of_exec hi hp ht
  exact hending.errCode_mem hne

end Sys2Proof.Machine
end

section
/-! PROOFS. The reset input: the whole block is as after reset, and what is not of the block is kept (R34, R230, R231). -/

namespace Sys2Proof.Machine

@[simp] theorem applyReset_block (s : State) : s.applyReset.block = State.reset.block := rfl

@[simp] theorem applyReset_trace (s : State) : s.applyReset.trace = s.trace := rfl

@[simp] theorem applyReset_inbox (s : State) : s.applyReset.inbox = s.inbox := rfl

@[simp] theorem applyReset_replies (s : State) : s.applyReset.replies = s.replies := rfl

/-- The reset input is taken in every PHASE: its step asks nothing of the state (R230). -/
theorem step_of_reset {s : State} {rest : List Input} (h : s.inbox = .reset :: rest) :
    step s = .next { s with inbox := rest }.applyReset := step_of_inbox_cons h

/-- Settles O2: the step is `applyReset`, which takes from the state before only its trace, inbox and replies. -/
theorem resetInputFromAnyState : Obligations.ResetInputFromAnyState := fun _ _ hinbox =>
  ⟨_, step_of_reset hinbox, applyReset_block _, applyReset_trace _, applyReset_inbox _, applyReset_replies _⟩

end Sys2Proof.Machine
end
